-- ==== Sys2Proof/Word.lean ====
section
/-! DEFINITION. The widths the manual uses (bytes, 16-bit node addresses, 32-bit times and counts) and `Tab`,
a table with a fixed number of places, in which the part's numbered instances (ports, queues, entries) are held. -/

namespace Sys2Proof

abbrev Byte := BitVec 8
/-- A node address, and every other 16-bit field. -/
abbrev Half := BitVec 16
/-- A timestamp, a deadline, a counter. -/
abbrev Word := BitVec 32

/-- A table of exactly `n` places. -/
structure Tab (α : Type) (n : Nat) where
  list : List α
  len : list.length = n
  deriving DecidableEq, Repr

namespace Tab
variable {α : Type} {n : Nat}

def get (t : Tab α n) (i : Fin n) : α := t.list[i.val]'(t.len.symm ▸ i.isLt)

def set (t : Tab α n) (i : Fin n) (x : α) : Tab α n := ⟨t.list.set i.val x, by simp [t.len]⟩

def upd (t : Tab α n) (i : Fin n) (f : α → α) : Tab α n := t.set i (f (t.get i))

def ofFn (f : Fin n → α) : Tab α n := ⟨(List.finRange n).map f, by simp⟩

def map (t : Tab α n) (f : α → α) : Tab α n := ⟨t.list.map f, by simp [t.len]⟩

def replicate (n : Nat) (x : α) : Tab α n := ⟨List.replicate n x, by simp⟩

/-- The places with their numbers, in ascending order. -/
def entries (t : Tab α n) : List (Fin n × α) := (List.finRange n).zip t.list

end Tab

end Sys2Proof
end

