-- ==== Sys2Proof/Config.lean ====
section
/-! DEFINITION. What the part fixes once: capacities, identity codes, fixed intervals, and the values after a hard
reset that the item table gives. No free value stands here: no rule of the spec leaves a result open while the part
goes on, and the one order that no command gives is a field of State (log 6). -/

namespace Sys2Proof.Config

/-- R13, R136: a control list holds at most 8 frames. -/
def controlListMax : Nat := 8
/-- R38, R136. -/
def returnListMax : Nat := 32
/-- R136. -/
def requestQueueMax : Nat := 4
/-- R170, R136. -/
def recordQueueMax : Nat := 32
/-- R58. -/
def cells : Nat := 2048
/-- R58: bytes in one cell. -/
def cellBytes : Nat := 64
/-- R66. -/
def descriptors : Nat := 256
/-- R64: the most the seventeen reserves may add up to. -/
def reserveSumMax : Nat := 1024
/-- R69: the band between low-water and recovery. -/
def lowWaterBand : Nat := 64
/-- R162: counters stop here. -/
def counterMax : Nat := 4294967295
/-- R143: the response wait, in microseconds. -/
def responseWait : Nat := 10000
/-- R27: the first one-second deadline and the interval between two of them. -/
def second : Nat := 1000000
/-- R128: the largest retry count. -/
def retryCountMax : Nat := 15

/-- R150. -/
def vendorCode : Half := 0x5A31
/-- R150. -/
def partCode : Half := 0x0084
/-- R150. -/
def revision : Byte := 1
/-- R156: the own address is this plus the straps. -/
def ownBase : Half := 0xFE00
/-- The address of all nodes (00_scope, Addresses). -/
def broadcast : Half := 0xFFFF
/-- The address that stands for no node. -/
def noNode : Half := 0x0000

/-- The straps that `State.reset` stands for. DESIGN CHOICE (log 12): the board sets them; HARD_RESET carries them. -/
def resetStraps : BitVec 6 := 0

end Sys2Proof.Config
end

