-- ==== Sys2Proof/Syntax.lean ====
section
/-! DEFINITION. The commands of the block, one constructor per row of spec/opcode_table.json, and the names the manual
gives to ports, queues, requests, statuses and items. The table gives its rows no operands; those of a command are
what its rule needs to be told from outside (log 1). -/

namespace Sys2Proof

/-- The twelve ports by number: edge ports 0 to 7, trunk ports 8 to 11 (00_scope, Conventions). -/
abbrev Port := Fin 12
abbrev EdgeId := Fin 8
abbrev TrunkId := Fin 4
abbrev QueueId := Fin 16
abbrev ProfileId := Fin 8
abbrev SlotId := Fin 8
/-- R60: accounts 0 to 15 are the queues', account 16 is RET. -/
abbrev AcctId := Fin 17
/-- R41: an index of a steering bank. -/
abbrev EntryId := Fin 256
/-- R26: a directory position. -/
abbrev DirPos := Fin 64

/-- Which of the two kinds of port a number names. -/
inductive Side where
  | edge (e : EdgeId)
  | trunk (t : TrunkId)
  deriving DecidableEq, Repr

/-- The blocks that raise events (R168, R169), each instance of a block by itself. -/
inductive Block where
  | linkLayer (p : Port)
  | edgeUnit
  | steeringUnit
  | cellPool
  | queueUnit
  | trunkUnit (t : TrunkId)
  | deliveryWindow (t : TrunkId)
  | managementUnit
  deriving DecidableEq, Repr

/-- The blocks that take a restart, each as one event of its own (R154), each instance of a block by itself. A trunk unit
takes it together with its delivery window, which R116 empties before the trunk state is set (log 6). -/
inductive RestartBlock where
  | linkLayer (p : Port)
  | edgeUnit
  | steeringUnit
  | cellPool
  | queueUnit
  | trunkUnit (t : TrunkId)
  | managementUnit
  | eventUnit
  | counterBlock
  deriving DecidableEq, Repr

namespace Machine

/-- The rows of the table that take a management request, one per row. -/
inductive RequestRow where
  | identify | claim | release | readItem | writeItem
  | writeEdgeAdminState | writeTrunkAdminEnabled | writeTrunkAdminDisabled
  | writeReserve | writeCap | writePoolLowWater
  | tableWrite | tableClear | tableRead | readHits | commit
  | queueStart | queueHalt | queueFlush | queuePurge | queueStatus
  | dirPin | dirUnpin | dirFlush | dirRead
  | subscribe | unsubscribe | eventAck
  | readEvents | readEventsTake | readCounters | readCountersClear
  | restart | unknownRequestKind
  deriving DecidableEq, Repr

/-- The request kinds of R19. -/
inductive RequestKind where
  | identify | claim | release | readItem | writeItem
  | tableWrite | tableClear | tableRead | readHits | commit
  | queueStart | queueHalt | queueFlush | queuePurge | queueStatus
  | dirPin | dirUnpin | dirFlush | dirRead
  | subscribe | unsubscribe | eventAck
  | readEvents | readCounters | restart
  deriving DecidableEq, Repr

/-- The status codes of R141. -/
inductive Status where
  | ok | busy | notOwner | badRequest | badIndex | badValue | wrongState | noResource
  deriving DecidableEq, Repr

/-- The items of R160 that exist, named (R157). -/
inductive Item where
  | ownAddress | lastResetCause | defaultAction | defaultQueue | leaseTime | directoryAge
  | poolLowWater | retReserve | retCap | freeCells | freeDescriptors | generation
  | activeBank | syncState | timestamp | recordsLost
  | portAdmin (p : Port) | portLink (p : Port)
  | arbitrationMode (t : TrunkId) | collector (t : TrunkId) | windowSize (t : TrunkId)
  | retryInterval (t : TrunkId) | retryLimit (t : TrunkId) | holdTime (t : TrunkId)
  | trunkState (t : TrunkId)
  | queueTrunk (q : QueueId) | queuePriority (q : QueueId) | queueProfile (q : QueueId)
  | queueReserve (q : QueueId) | queueCap (q : QueueId) | queueDrainLimit (q : QueueId)
  | queueState (q : QueueId)
  | threshold (f : ProfileId) | frameLimit (f : ProfileId) | ageLimit (f : ProfileId)
  deriving DecidableEq, Repr

end Machine

/-- The commands. -/
inductive Instr where
  /-- R155, R156: a hard reset ends, with the straps as sampled. -/
  | hardReset (straps : BitVec 6)
  /-- R2: the physical layer of `p` reports UP. -/
  | linkUp (p : Port)
  /-- R3: the physical layer of `p` reports DOWN; `receiving` says whether a reception is in progress (log 11). -/
  | linkDown (p : Port) (receiving : Bool)
  /-- R1: a reception at `p` ends aborted. -/
  | receptionAborted (p : Port)
  /-- R1, R9: a frame arrives whole at `p`. -/
  | frameArrival (p : Port) (bytes : List Byte)
  /-- R8: the transmission at `p` ends. `responseFirst` says which producer offers first for a place that the end
  frees in the control list (R14: either order is correct, log 9). -/
  | transmissionEnd (p : Port) (responseFirst : Bool)
  /-- R27. -/
  | directorySecondExpiry
  /-- R81. -/
  | ageDeadlineExpiry (q : QueueId)
  /-- R87. -/
  | drainDeadlineExpiry (q : QueueId)
  /-- R102; `p` is a trunk port by its port number. -/
  | holdDeadlineExpiry (p : Port)
  /-- R127; `p` is a trunk port by its port number, `seq` the bundle's trunk sequence. -/
  | retryDeadlineExpiry (p : Port) (seq : Byte)
  /-- R148. -/
  | leaseDeadlineExpiry
  /-- R143. -/
  | responseWaitExpiry
  /-- R178. -/
  | repeatDeadlineExpiry (i : SlotId)
  /-- R54. -/
  | syncStep
  /-- R169: the event unit takes the oldest waiting arrival of raises of block `b` (log 4). -/
  | eventRaise (b : Block)
  /-- R154. -/
  | restartBegin
  /- The taking of the request at the head of the request queue (R138), one row per kind of request (log 8). -/
  | identify
  | claim
  | release
  | readItem
  | writeItem
  | writeEdgeAdminState
  | writeTrunkAdminEnabled
  | writeTrunkAdminDisabled
  | writeReserve
  | writeCap
  | writePoolLowWater
  | tableWrite
  | tableClear
  | tableRead
  | readHits
  | commit
  | queueStart
  | queueHalt
  | queueFlush
  | queuePurge
  | queueStatus
  | dirPin
  | dirUnpin
  | dirFlush
  | dirRead
  | subscribe
  | unsubscribe
  | eventAck
  | readEvents
  | readEventsTake
  | readCounters
  | readCountersClear
  | restart
  | unknownRequestKind
  /-- R155: RESET_N goes low, or power is lost. -/
  | resetNLow
  /-- R166. -/
  | timestampTick
  deriving DecidableEq, Repr

end Sys2Proof
end

