-- ==== Sys2Proof/WellFormed.lean ====
section
/-! DEFINITION. Which commands name something the part has. Every operand but one is well formed by its type; the
hold and retry deadlines exist at trunk ports only (R96, R127). -/

namespace Sys2Proof

/-- A port number that names a trunk port (00_scope, Conventions: 8 to 11). -/
def Port.isTrunk (p : Port) : Bool := 8 ≤ p.val

/-- The command names ports of the kind its rule speaks of. -/
def Instr.wf : Instr → Bool
  | .holdDeadlineExpiry p => p.isTrunk
  | .retryDeadlineExpiry p _ => p.isTrunk
  | .hardReset _ | .linkUp _ | .linkDown _ _ | .receptionAborted _ | .frameArrival _ _ | .transmissionEnd _ _ => true
  | .directorySecondExpiry | .ageDeadlineExpiry _ | .drainDeadlineExpiry _ | .leaseDeadlineExpiry => true
  | .responseWaitExpiry | .repeatDeadlineExpiry _ | .syncStep | .eventRaise _ | .restartBegin => true
  | .identify | .claim | .release | .readItem | .writeItem | .writeEdgeAdminState => true
  | .writeTrunkAdminEnabled | .writeTrunkAdminDisabled | .writeReserve | .writeCap | .writePoolLowWater => true
  | .tableWrite | .tableClear | .tableRead | .readHits | .commit => true
  | .queueStart | .queueHalt | .queueFlush | .queuePurge | .queueStatus => true
  | .dirPin | .dirUnpin | .dirFlush | .dirRead | .subscribe | .unsubscribe | .eventAck => true
  | .readEvents | .readEventsTake | .readCounters | .readCountersClear | .restart | .unknownRequestKind => true
  | .resetNLow | .timestampTick => true

end Sys2Proof
end

