-- ==== Sys2Proof/Decode.lean ====
section
/-! DEFINITION. Commands as words of the opcode table: no row of spec/opcode_table.json gives bits ("fields" is empty
in every row), so no word spells a command. -/

namespace Sys2Proof

/-- The command that a word spells by the table's bits: none, whatever the word. -/
def decodeTableWord (_nbits _w : Nat) : Option Instr := none

end Sys2Proof
end

