-- ==== Sys2Proof/Machine/State.lean ====
section
/-! DEFINITION. The state of the part: every piece of state the manual gives each block, as plain data, with the
values a hard reset leaves (R155). Nothing here computes a step. -/

namespace Sys2Proof.Machine

/-- The part has no fault: a received frame is dropped with a counted reason or dispatched (R9 to R12), a request is
answered with a status (R141), and no rule names a state in which the part stops. No command raises a fault. -/
inductive Fault
  deriving DecidableEq, Repr

/-- Why a command has no outcome. -/
inductive Refusal where
  /-- Raised by `exec` alone, for a row that has no meaning yet (none is left). Safe: nothing follows from it. -/
  | notModelled (mnemonic : String)
  deriving DecidableEq, Repr

/-- A frame without its length field and check, which `Frame.bytes` computes (R4). -/
structure Frame where
  kind : Byte
  tag : Byte
  dst : Half
  src : Half
  seq : Byte
  flags : Byte
  payload : List Byte
  deriving DecidableEq, Repr

/-- R13: a MGMT response or a NOTE frame in a control list. `restart` marks the response that the management unit
notes when it places it (R152). -/
structure ControlFrame where
  frame : Frame
  restart : Bool
  deriving DecidableEq, Repr

/-- R8: the owner to which a transmission's end or abort is reported. -/
inductive WireOwner where
  | control
  | returnFrame
  | bundle (seq : Byte)
  deriving DecidableEq, Repr

/-- R8: a transmission in progress, with the frame as stamped at its start. -/
structure OnWire where
  frame : Frame
  owner : WireOwner
  deriving DecidableEq, Repr

/-- The link layer of one port (R2, R7, R8, R13). `wire` is none while the transmitter is idle. -/
structure Link where
  up : Bool
  txCount : Byte
  wire : Option OnWire
  control : List ControlFrame
  deriving DecidableEq, Repr

inductive Origin where
  | learned
  | pinned
  deriving DecidableEq, Repr

/-- R26. -/
structure DirEntry where
  addr : Half
  port : EdgeId
  origin : Origin
  lastSeen : Word
  deriving DecidableEq, Repr

/-- The edge unit (R23, R26, R27, R30, R31, R38). `enabled` is the admin state; a return frame keeps its header as
received and its payload. -/
structure Edge where
  enabled : Tab Bool 8
  directory : Tab (Option DirEntry) 64
  seconds : Word
  secondDeadline : Word
  fullRefusal : Bool
  directoryAge : Nat
  returns : Tab (List Frame) 8
  deriving DecidableEq, Repr

inductive Bank where
  | a
  | b
  deriving DecidableEq, Repr

inductive SteerAction where
  | discard
  | toQueue
  deriving DecidableEq, Repr

/-- R42. Bit k of `portSet` is the membership of Ek (R149). -/
structure SteerEntry where
  valid : Bool
  portSet : Byte
  srcValue : Half
  srcMask : Half
  tagValue : Byte
  tagMask : Byte
  action : SteerAction
  queue : QueueId
  deriving DecidableEq, Repr

/-- R42: the blank entry. -/
def SteerEntry.blank : SteerEntry :=
  { valid := false, portSet := 0, srcValue := 0, srcMask := 0, tagValue := 0, tagMask := 0,
    action := .discard, queue := 0 }

/-- The steering unit (R41, R45 to R47, R52, R54). -/
structure Steer where
  bankA : Tab SteerEntry 256
  bankB : Tab SteerEntry 256
  hitsA : Tab Word 256
  hitsB : Tab Word 256
  active : Bank
  generation : Half
  marks : Tab Bool 256
  syncing : Bool
  nextIndex : Nat
  defaultAction : SteerAction
  defaultQueue : QueueId
  deriving DecidableEq, Repr

/-- R60. -/
structure Account where
  inUse : Nat
  reserve : Nat
  cap : Nat
  deriving DecidableEq, Repr

/-- The cell pool (R58, R60, R66, R69). The cells and the descriptors on the free lists are interchangeable (R58), so
they are counted (log 15); `low` is the monitor state POOL_LOW. -/
structure Pool where
  freeCells : Nat
  accounts : Tab Account 17
  freeDescriptors : Nat
  lowWater : Nat
  low : Bool
  deriving DecidableEq, Repr

/-- R17: a member record. -/
structure Member where
  src : Half
  tag : Byte
  nodeSeq : Byte
  port : EdgeId
  payload : List Byte
  deriving DecidableEq, Repr

inductive CloseReason where
  | size
  | count
  | age
  | flush
  | halt
  deriving DecidableEq, Repr

/-- R67: a batch descriptor up to its grant. Its state is where it stands (open batch: OPEN, ready list: READY, window:
OUTSTANDING or RETIRING), its byte size and member count are computed from the members (log 16). -/
structure Batch where
  queue : QueueId
  members : List Member
  threshold : Nat
  frameLimit : Nat
  openTime : Word
  ageDeadline : Option Word
  closeReason : Option CloseReason
  deriving DecidableEq, Repr

/-- R101: the two forms of a set due flag. -/
inductive DueForm where
  | counted
  | uncounted
  deriving DecidableEq, Repr

/-- R67, R117: a batch descriptor after its grant, with the window's fields. -/
structure Bundle where
  batch : Batch
  seq : Byte
  retry : Nat
  due : Option DueForm
  retryDeadline : Option Word
  retiring : Bool
  deriving DecidableEq, Repr

inductive QueueMode where
  | off
  | active
  | halting
  deriving DecidableEq, Repr

/-- One queue: its record (R76) and its items but reserve and cap, which its account holds (R73). -/
structure Queue where
  state : QueueMode
  openBatch : Option Batch
  ready : List Batch
  outstanding : Nat
  drain : Option Word
  trunk : TrunkId
  priority : Fin 4
  profile : ProfileId
  drainLimit : Nat
  deriving DecidableEq, Repr

/-- R74. -/
structure Profile where
  threshold : Nat
  frameLimit : Nat
  ageLimit : Nat
  deriving DecidableEq, Repr

inductive TrunkMode where
  | disabled
  | waiting
  | running
  | stopping
  | holding
  deriving DecidableEq, Repr

/-- One trunk unit and its delivery window (R95, R96, R110, R117). `enabled` is the admin state, `priorityMode` the
arbitration mode PRIORITY; `bundles` stand in the order of their trunk sequences, oldest first. -/
structure Trunk where
  enabled : Bool
  state : TrunkMode
  stopRequested : Bool
  hold : Option Word
  priorityMode : Bool
  collector : Half
  windowSize : Nat
  retryInterval : Nat
  retryLimit : Nat
  holdTime : Nat
  rrPointer : QueueId
  levelPointers : Tab QueueId 4
  nextSeq : Byte
  bundles : List Bundle
  deriving DecidableEq, Repr

/-- R136: a request keeps its whole payload, its source and its arrival port. -/
structure Request where
  payload : List Byte
  src : Half
  port : Port
  deriving DecidableEq, Repr

/-- R138. `restartDue` is the model's own: the restart has been decided (R152, R153) and RESTART_BEGIN is the next step
of the unit (log 7). -/
inductive MgmtMode where
  | ready
  | responseWait (response : ControlFrame) (port : Port) (deadline : Word)
  | restartWait
  | restartDue
  deriving DecidableEq, Repr

/-- R144. -/
structure Owner where
  addr : Half
  port : Port
  lease : Word
  deriving DecidableEq, Repr

inductive ResetCause where
  | power
  | restart
  deriving DecidableEq, Repr

/-- The management unit (R136 to R138, R144, R156). -/
structure Mgmt where
  requests : List Request
  overflow : Bool
  mode : MgmtMode
  owner : Option Owner
  leaseTime : Nat
  lastCause : ResetCause
  deriving DecidableEq, Repr

/-- R168. -/
inductive EventKind where
  | linkUp | linkDown | holdExpired | bundleAbandoned | queueOff | poolLow | poolRecovered
  | nodeMoved | directoryFull | ownerChanged | ownerLost | tableSynced | mgmtOverflow | restarted | recordsLost
  deriving DecidableEq, Repr

/-- R169: what a block hands the event unit. -/
structure Raise where
  kind : EventKind
  subject : Byte
  detail : Word
  deriving DecidableEq, Repr

/-- R169: the events that one step of one block raises reach the event unit as one arrival, in order. -/
structure Arrival where
  block : Block
  events : List Raise
  deriving DecidableEq, Repr

/-- R22, R170. -/
structure EventRecord where
  kind : EventKind
  subject : Byte
  detail : Word
  time : Word
  deriving DecidableEq, Repr

/-- R173. In a set of kinds, bit k is the membership of kind k (R21). -/
structure Slot where
  inUse : Bool
  addr : Half
  port : Port
  kindSet : Half
  repeatInterval : Nat
  noteSeq : Byte
  owed : Half
  pending : Half
  recurred : Half
  repeatDeadline : Option Word
  deriving DecidableEq, Repr

/-- The event unit (R169, R170, R173). `raised` holds the arrivals not yet taken, oldest first (log 4); `awaiting` the
blocks that have still to take the restart in progress (R154, R181), none when there is no restart in progress. `orders`
is the model's own free value, which no rule fixes: for each RESTART_BEGIN to come the blocks that take the restart in
it, in this order; where it gives none, every block in one order (log 6). -/
structure EventUnit where
  slots : Tab Slot 8
  records : List EventRecord
  lost : Word
  raised : List Arrival
  awaiting : List RestartBlock
  orders : List (List RestartBlock)
  deriving DecidableEq, Repr

/-- R163: the counters of every port, in the order in which READ_COUNTERS returns them. -/
inductive PortCounter where
  | receiveGood | aborted | length | oversize | badCheck | badKind | badSource | notLocal | wrongPort | portDisabled
  | notDeliverable | controlLost | steerMiss | steerDiscard | pinnedMismatch | learnRefused | returnFull | noCells
  | returnLost | framesSent
  deriving DecidableEq, Repr

/-- R92, in order. -/
inductive QueueCounter where
  | admitted | queueNotActive | noCells | noBatch | closedSize | closedCount | closedAge | closedFlush | closedHalt
  | framesPurged | framesAbandoned | framesDelivered | bundlesAcked
  deriving DecidableEq, Repr

/-- R115, in order. -/
inductive TrunkCounter where
  | bundlesSent | retransmissions | bundlesAbandoned | staleAck | malformedAck | controlSent | transmitAborted
  deriving DecidableEq, Repr

/-- R151, R163, in order. -/
inductive MgmtCounter where
  | mgmtDropped | responseLost | requestsTaken | notesSent | notesRefused
  deriving DecidableEq, Repr

/-- The counter block (R162, R163): each group's counters in the order of its enumeration. -/
structure Counters where
  port : Tab (Tab Word 20) 12
  queue : Tab (Tab Word 13) 16
  trunk : Tab (Tab Word 7) 4
  mgmt : Tab Word 5
  deriving DecidableEq, Repr

/-- The whole part, and the queue of commands that wait. -/
structure State where
  pending : List Instr
  resetLow : Bool
  now : Word
  ownAddress : Half
  links : Tab Link 12
  edge : Edge
  steer : Steer
  pool : Pool
  queues : Tab Queue 16
  profiles : Tab Profile 8
  trunks : Tab Trunk 4
  mgmt : Mgmt
  events : EventUnit
  counters : Counters
  deriving DecidableEq, Repr

/-- R2, R7, R13. -/
def Link.reset : Link := { up := false, txCount := 0, wire := none, control := [] }

/-- R23, R26, R27, R30, R38, R160. -/
def Edge.reset : Edge :=
  { enabled := .replicate 8 true, directory := .replicate 64 none, seconds := 0,
    secondDeadline := BitVec.ofNat 32 Config.second, fullRefusal := false, directoryAge := 300,
    returns := .replicate 8 [] }

/-- R56. -/
def Steer.reset : Steer :=
  { bankA := .replicate 256 .blank, bankB := .replicate 256 .blank, hitsA := .replicate 256 0,
    hitsB := .replicate 256 0, active := .a, generation := 0, marks := .replicate 256 false, syncing := false,
    nextIndex := 0, defaultAction := .discard, defaultQueue := 0 }

/-- R71. -/
def Pool.reset : Pool :=
  { freeCells := Config.cells,
    accounts := (Tab.replicate 17 { inUse := 0, reserve := 0, cap := 256 }).set 16
      { inUse := 0, reserve := 64, cap := 512 },
    freeDescriptors := Config.descriptors, lowWater := 128, low := false }

/-- R73, R76, R93. -/
def Queue.reset : Queue :=
  { state := .off, openBatch := none, ready := [], outstanding := 0, drain := none, trunk := 0, priority := 0,
    profile := 0, drainLimit := 1000 }

/-- R74. -/
def Profile.reset : Profile := { threshold := 1024, frameLimit := 16, ageLimit := 1000 }

/-- R95, R96, R110, R117. -/
def Trunk.reset : Trunk :=
  { enabled := true, state := .waiting, stopRequested := false, hold := none, priorityMode := false,
    collector := 0xFFFF, windowSize := 4, retryInterval := 2000, retryLimit := 3, holdTime := 500, rrPointer := 15,
    levelPointers := .replicate 4 15, nextSeq := 0, bundles := [] }

/-- R136, R137, R138, R144, R155, R156. -/
def Mgmt.reset : Mgmt :=
  { requests := [], overflow := false, mode := .ready, owner := none, leaseTime := 10000, lastCause := .power }

/-- R180. -/
def Slot.reset : Slot :=
  { inUse := false, addr := 0, port := 0, kindSet := 0, repeatInterval := 0, noteSeq := 0, owed := 0, pending := 0,
    recurred := 0, repeatDeadline := none }

/-- R170, R180. The orders of restarts to come are the model's choice (log 6): every block in one RESTART_BEGIN. -/
def EventUnit.reset : EventUnit :=
  { slots := .replicate 8 .reset, records := [], lost := 0, raised := [], awaiting := [], orders := [] }

/-- R165. -/
def Counters.reset : Counters :=
  { port := .replicate 12 (.replicate 20 0), queue := .replicate 16 (.replicate 13 0),
    trunk := .replicate 4 (.replicate 7 0), mgmt := .replicate 5 0 }

/-- R155, R156: the part when a hard reset ends, with the straps as sampled then. -/
def State.afterHardReset (straps : BitVec 6) (pending : List Instr) : State :=
  { pending := pending, resetLow := false, now := 0, ownAddress := Config.ownBase + straps.setWidth 16,
    links := .replicate 12 .reset, edge := .reset, steer := .reset, pool := .reset, queues := .replicate 16 .reset,
    profiles := .replicate 8 .reset, trunks := .replicate 4 .reset, mgmt := .reset, events := .reset,
    counters := .reset }

/-- The machine right after a hard reset. Its straps are the model's choice (log 12). -/
def State.reset : State := State.afterHardReset Config.resetStraps []

end Sys2Proof.Machine
end

