-- ==== Sys2Proof/Machine/Operands.lean ====
section
/-! DEFINITION. What crosses a link: bytes and multi-byte fields, the frame and its check, the codes of R16 to R22 and
R149, and the operands of a request. Every multi-byte field is most significant byte first. -/

namespace Sys2Proof

/-- Edge ports are 0 to 7 and trunk ports 8 to 11 (00_scope, Conventions). -/
def Port.side (p : Port) : Side :=
  if h : p.val < 8 then .edge ⟨p.val, h⟩ else .trunk ⟨p.val - 8, by omega⟩

def EdgeId.port (e : EdgeId) : Port := ⟨e.val, by omega⟩
def TrunkId.port (t : TrunkId) : Port := ⟨8 + t.val, by omega⟩

/-- R60: the account of a queue. -/
def QueueId.acct (q : QueueId) : AcctId := ⟨q.val, by omega⟩
/-- R60: the account of the return path. -/
def retAcct : AcctId := 16

namespace Machine

/-! ### Bytes -/

def be16 (x : Half) : List Byte := [x.extractLsb' 8 8, x.extractLsb' 0 8]

def be32 (x : Word) : List Byte :=
  [x.extractLsb' 24 8, x.extractLsb' 16 8, x.extractLsb' 8 8, x.extractLsb' 0 8]

/-- A number sent in one byte, two bytes, four bytes. -/
def byteOf (n : Nat) : Byte := BitVec.ofNat 8 n
def be16n (n : Nat) : List Byte := be16 (BitVec.ofNat 16 n)
def be32n (n : Nat) : List Byte := be32 (BitVec.ofNat 32 n)

def byteAt (l : List Byte) (i : Nat) : Byte := l.getD i 0
def halfAt (l : List Byte) (i : Nat) : Half := byteAt l i ++ byteAt l (i + 1)
def wordAt (l : List Byte) (i : Nat) : Word := halfAt l i ++ halfAt l (i + 2)

/-! ### Frames -/

/-- R6: one step of the CRC-16 with polynomial x^16 + x^12 + x^5 + 1, most significant bit first. -/
def crcShift (r : Half) : Half := if r.msb then (r <<< 1) ^^^ 0x1021 else r <<< 1

/-- R6: one byte taken into the register. -/
def crcByte (r : Half) (b : Byte) : Half :=
  Nat.repeat crcShift 8 (r ^^^ (b.setWidth 16 <<< 8))

/-- R6: the check over the header and the payload in the order sent. -/
def crc (bytes : List Byte) : Half := bytes.foldl crcByte 0xFFFF

/-- R4: the 10-byte header. -/
def Frame.header (f : Frame) : List Byte :=
  [f.kind, f.tag] ++ be16 f.dst ++ be16 f.src ++ [f.seq, f.flags] ++ be16n f.payload.length

/-- R4: the frame as it stands on the line. -/
def Frame.bytes (f : Frame) : List Byte :=
  f.header ++ f.payload ++ be16 (crc (f.header ++ f.payload))

/-- R4: the five kind codes. -/
def kindData : Byte := 0x01
def kindBundle : Byte := 0x02
def kindAck : Byte := 0x03
def kindMgmt : Byte := 0x04
def kindNote : Byte := 0x05

/-- R4, R5: the fields of received bytes. -/
def Frame.ofBytes (l : List Byte) : Frame :=
  { kind := byteAt l 0, tag := byteAt l 1, dst := halfAt l 2, src := halfAt l 4, seq := byteAt l 6,
    flags := byteAt l 7, payload := (l.drop 10).take (l.length - 12) }

/-- R9, tests 2 to 6 in order: the counter of the reason the frame is dropped for, or the frame. -/
def validate (l : List Byte) : Except PortCounter Frame :=
  let declared := (halfAt l 8).toNat
  let f := Frame.ofBytes l
  if l.length < 12 ∨ l.length ≠ 12 + declared ∨ (f.kind = kindMgmt ∧ declared < 4) then .error .length
  else if 252 < l.length then .error .oversize
  else if crc (l.take (l.length - 2)) ≠ halfAt l (l.length - 2) then .error .badCheck
  else if ¬ (f.kind = kindData ∨ f.kind = kindAck ∨ f.kind = kindMgmt) then .error .badKind
  else if f.src = Config.noNode ∨ f.src = Config.broadcast then .error .badSource
  else .ok f

/-- R17, R59: the size of a member record. -/
def Member.size (m : Member) : Nat := 6 + m.payload.length

/-- R59: the cells of a stored object of so many bytes. -/
def cellsFor (bytes : Nat) : Nat := (bytes + (Config.cellBytes - 1)) / Config.cellBytes

def Member.cells (m : Member) : Nat := cellsFor m.size

/-- R38, R59: a return frame is stored as its header and its payload. -/
def returnCells (f : Frame) : Nat := cellsFor (10 + f.payload.length)

/-- R17. -/
def Member.bytes (m : Member) : List Byte :=
  be16 m.src ++ [m.tag, m.nodeSeq, byteOf m.payload.length, byteOf m.port.val] ++ m.payload

/-- R67: the sum of the member sizes. -/
def Batch.byteSize (b : Batch) : Nat := (b.members.map Member.size).sum

/-- The cells of the members' chains. -/
def Batch.cells (b : Batch) : Nat := (b.members.map Member.cells).sum

/-- R16: the code of a close reason. -/
def CloseReason.code : CloseReason → Byte
  | .size => 1
  | .count => 2
  | .age => 3
  | .flush => 4
  | .halt => 5

/-! ### Codes of requests, responses and events -/

/-- R19. -/
def RequestKind.ofCode (c : Byte) : Option RequestKind :=
  match c.toNat with
  | 0x01 => some .identify
  | 0x02 => some .claim
  | 0x03 => some .release
  | 0x04 => some .readItem
  | 0x05 => some .writeItem
  | 0x06 => some .tableWrite
  | 0x07 => some .tableClear
  | 0x08 => some .tableRead
  | 0x09 => some .readHits
  | 0x0A => some .commit
  | 0x0B => some .queueStart
  | 0x0C => some .queueHalt
  | 0x0D => some .queueFlush
  | 0x0E => some .queuePurge
  | 0x0F => some .queueStatus
  | 0x10 => some .dirPin
  | 0x11 => some .dirUnpin
  | 0x12 => some .dirFlush
  | 0x13 => some .dirRead
  | 0x14 => some .subscribe
  | 0x15 => some .unsubscribe
  | 0x16 => some .eventAck
  | 0x17 => some .readEvents
  | 0x18 => some .readCounters
  | 0x19 => some .restart
  | _ => none

/-- R149: the operand length of a kind. -/
def RequestKind.operandLength : RequestKind → Nat
  | .identify | .claim | .release | .tableClear | .commit | .dirFlush | .restart => 0
  | .queueStart | .queueHalt | .queueFlush | .queuePurge | .queueStatus => 1
  | .dirRead | .unsubscribe | .readEvents => 1
  | .dirUnpin | .readCounters => 2
  | .readItem | .tableRead | .readHits | .dirPin | .eventAck => 3
  | .writeItem => 7
  | .subscribe => 8
  | .tableWrite => 12

/-- R141. -/
def Status.code : Status → Byte
  | .ok => 0
  | .busy => 1
  | .notOwner => 2
  | .badRequest => 3
  | .badIndex => 4
  | .badValue => 5
  | .wrongState => 6
  | .noResource => 7

/-- R168. -/
def EventKind.code : EventKind → Nat
  | .linkUp => 1
  | .linkDown => 2
  | .holdExpired => 3
  | .bundleAbandoned => 4
  | .queueOff => 5
  | .poolLow => 6
  | .poolRecovered => 7
  | .nodeMoved => 8
  | .directoryFull => 9
  | .ownerChanged => 10
  | .ownerLost => 11
  | .tableSynced => 12
  | .mgmtOverflow => 13
  | .restarted => 14
  | .recordsLost => 15

/-- R21: the set that holds one kind. -/
def EventKind.bit (k : EventKind) : Half := 1 <<< k.code

/-- R22. -/
def EventRecord.bytes (r : EventRecord) : List Byte :=
  [byteOf r.kind.code, r.subject] ++ be32 r.detail ++ be32 r.time

/-- R149: banks are 0 for A and 1 for B. -/
def Bank.code : Bank → Nat
  | .a => 0
  | .b => 1

def Bank.other : Bank → Bank
  | .a => .b
  | .b => .a

/-- R149. -/
def SteerAction.code : SteerAction → Nat
  | .discard => 0
  | .toQueue => 1

/-- R149. -/
def QueueMode.code : QueueMode → Nat
  | .off => 0
  | .active => 1
  | .halting => 2

/-- R160. -/
def TrunkMode.code : TrunkMode → Nat
  | .disabled => 0
  | .waiting => 1
  | .running => 2
  | .stopping => 3
  | .holding => 4

/-- R149. -/
def Origin.code : Origin → Nat
  | .learned => 0
  | .pinned => 1

/-- R150. -/
def ResetCause.code : ResetCause → Nat
  | .power => 1
  | .restart => 2

/-- R149, R50: the 10 bytes of an entry in a TABLE_READ response. No rule gives the order of its fields; that it is the
order of R42 and of the TABLE_WRITE operands is the model's reading (log 34). -/
def SteerEntry.bytes (e : SteerEntry) : List Byte :=
  [byteOf e.valid.toNat, e.portSet] ++ be16 e.srcValue ++ be16 e.srcMask ++
    [e.tagValue, e.tagMask, byteOf e.action.code, byteOf e.queue.val]

/-! ### Requests -/

/-- R19: the request header. -/
def Request.id (r : Request) : List Byte := [byteAt r.payload 0, byteAt r.payload 1]
def Request.code (r : Request) : Byte := byteAt r.payload 2
def Request.flags (r : Request) : Byte := byteAt r.payload 3
def Request.kind (r : Request) : Option RequestKind := RequestKind.ofCode r.code
/-- Flag bits 0 and 1 (R19). -/
def Request.flag0 (r : Request) : Bool := r.flags.getLsbD 0
def Request.flag1 (r : Request) : Bool := r.flags.getLsbD 1

/-- The operand bytes follow the 4-byte request header (R149). -/
def Request.op (r : Request) (i : Nat) : Byte := byteAt r.payload (4 + i)
def Request.opNat (r : Request) (i : Nat) : Nat := (r.op i).toNat
def Request.op16 (r : Request) (i : Nat) : Half := halfAt r.payload (4 + i)
def Request.op32 (r : Request) (i : Nat) : Word := wordAt r.payload (4 + i)

/-- R139, check 1: a known kind with the operand length of the catalogue. -/
def Request.wellFormed (r : Request) : Bool :=
  match r.kind with
  | some k => r.payload.length == 4 + k.operandLength
  | none => false

/-- R139: the kinds that need ownership. -/
def Request.mutating (r : Request) : Bool :=
  match r.kind with
  | none => false
  | some k =>
    match k with
    | .writeItem | .tableWrite | .tableClear | .commit => true
    | .queueStart | .queueHalt | .queueFlush | .queuePurge => true
    | .dirPin | .dirUnpin | .dirFlush | .subscribe | .unsubscribe | .restart => true
    | .readEvents | .readCounters => r.flag0
    | .identify | .claim | .release | .readItem | .tableRead | .readHits | .queueStatus | .dirRead | .eventAck => false

/-! ### Item names -/

/-- A number as the index of a table of `n` places. -/
def index? (n i : Nat) : Option (Fin n) := if h : i < n then some ⟨i, h⟩ else none

/-- R157, R160: the GLOBAL fields. -/
def Item.ofGlobal (field : Nat) : Option Item :=
  match field with
  | 0x01 => some .ownAddress
  | 0x02 => some .lastResetCause
  | 0x03 => some .defaultAction
  | 0x04 => some .defaultQueue
  | 0x05 => some .leaseTime
  | 0x06 => some .directoryAge
  | 0x07 => some .poolLowWater
  | 0x08 => some .retReserve
  | 0x09 => some .retCap
  | 0x0A => some .freeCells
  | 0x0B => some .freeDescriptors
  | 0x0C => some .generation
  | 0x0D => some .activeBank
  | 0x0E => some .syncState
  | 0x0F => some .timestamp
  | 0x10 => some .recordsLost
  | _ => none

/-- R157, R160: the PORT fields; 0x03 to 0x09 exist at trunk ports only. -/
def Item.ofPort (p : Port) (field : Nat) : Option Item :=
  match field with
  | 0x01 => some (.portAdmin p)
  | 0x02 => some (.portLink p)
  | _ =>
    match p.side with
    | .edge _ => none
    | .trunk t =>
      match field with
      | 0x03 => some (.arbitrationMode t)
      | 0x04 => some (.collector t)
      | 0x05 => some (.windowSize t)
      | 0x06 => some (.retryInterval t)
      | 0x07 => some (.retryLimit t)
      | 0x08 => some (.holdTime t)
      | 0x09 => some (.trunkState t)
      | _ => none

/-- R157, R160: the QUEUE fields. -/
def Item.ofQueue (q : QueueId) (field : Nat) : Option Item :=
  match field with
  | 0x01 => some (.queueTrunk q)
  | 0x02 => some (.queuePriority q)
  | 0x03 => some (.queueProfile q)
  | 0x04 => some (.queueReserve q)
  | 0x05 => some (.queueCap q)
  | 0x06 => some (.queueDrainLimit q)
  | 0x07 => some (.queueState q)
  | _ => none

/-- R157, R160: the PROFILE fields. -/
def Item.ofProfile (f : ProfileId) (field : Nat) : Option Item :=
  match field with
  | 0x01 => some (.threshold f)
  | 0x02 => some (.frameLimit f)
  | 0x03 => some (.ageLimit f)
  | _ => none

/-- R157: the item that a group, an instance number and a field name, if it exists. -/
def Item.ofName (group inst field : Nat) : Option Item :=
  match group with
  | 0 => if inst = 0 then Item.ofGlobal field else none
  | 1 => (index? 12 inst).bind fun p => Item.ofPort p field
  | 2 => (index? 16 inst).bind fun q => Item.ofQueue q field
  | 3 => (index? 8 inst).bind fun f => Item.ofProfile f field
  | _ => none

/-- The item a READ_ITEM or WRITE_ITEM request names. -/
def Request.item (r : Request) : Option Item := Item.ofName (r.opNat 0) (r.opNat 1) (r.opNat 2)

/-- The value a WRITE_ITEM request carries. -/
def Request.value (r : Request) : Nat := (r.op32 3).toNat

/-! ### The row of a request -/

/-- Which row of the table takes a WRITE_ITEM of this item and value: the rows of their own are those whose item has a
behaviour of its own; a trunk admin value that is neither state is refused in the WRITE_ITEM row (log 29). -/
def Item.writeRow (i : Item) (value : Nat) : RequestRow :=
  match i with
  | .portAdmin p =>
    match p.side with
    | .edge _ => .writeEdgeAdminState
    | .trunk _ => if value = 1 then .writeTrunkAdminEnabled else if value = 0 then .writeTrunkAdminDisabled else .writeItem
  | .retReserve | .queueReserve _ => .writeReserve
  | .retCap | .queueCap _ => .writeCap
  | .poolLowWater => .writePoolLowWater
  | _ => .writeItem

/-- The one row of the table whose step takes this request. -/
def Request.row (r : Request) : RequestRow :=
  match r.kind with
  | none => .unknownRequestKind
  | some k =>
    match k with
    | .identify => .identify
    | .claim => .claim
    | .release => .release
    | .readItem => .readItem
    | .writeItem =>
      if r.wellFormed then
        match r.item with
        | some i => i.writeRow r.value
        | none => .writeItem
      else .writeItem
    | .tableWrite => .tableWrite
    | .tableClear => .tableClear
    | .tableRead => .tableRead
    | .readHits => .readHits
    | .commit => .commit
    | .queueStart => .queueStart
    | .queueHalt => .queueHalt
    | .queueFlush => .queueFlush
    | .queuePurge => .queuePurge
    | .queueStatus => .queueStatus
    | .dirPin => .dirPin
    | .dirUnpin => .dirUnpin
    | .dirFlush => .dirFlush
    | .dirRead => .dirRead
    | .subscribe => .subscribe
    | .unsubscribe => .unsubscribe
    | .eventAck => .eventAck
    | .readEvents => if r.flag0 then .readEventsTake else .readEvents
    | .readCounters => if r.flag0 then .readCountersClear else .readCounters
    | .restart => .restart

end Machine
end Sys2Proof
end

