-- ==== Sys2Proof/Machine/Flags.lean ====
section
/-! DEFINITION. Counters that stop at their top, deadlines on the timestamp, and where each counter stands in its
group. -/

namespace Sys2Proof.Machine

/-- R162: an increase that would pass 4,294,967,295 leaves the counter there. -/
def satAdd (c : Word) (n : Nat) : Word := BitVec.ofNat 32 (min (c.toNat + n) Config.counterMax)

/-- R167: a deadline is now plus an interval, modulo 2^32. -/
def deadlineAfter (now : Word) (interval : Nat) : Word := now + BitVec.ofNat 32 interval

/-- R167: the timestamp has reached the deadline. Intervals are below 2^31, so that a deadline in the coming half of
the timestamp's circle is still ahead and one in the past half has been reached (log 3). -/
def reached (now deadline : Word) : Bool := (now - deadline).toNat < 2 ^ 31

/-- The deadline is there and has been reached. -/
def expired (now : Word) : Option Word → Bool
  | none => false
  | some d => reached now d

/-- R163, the order of the PORT group. -/
def PortCounter.index : PortCounter → Fin 20
  | .receiveGood => 0
  | .aborted => 1
  | .length => 2
  | .oversize => 3
  | .badCheck => 4
  | .badKind => 5
  | .badSource => 6
  | .notLocal => 7
  | .wrongPort => 8
  | .portDisabled => 9
  | .notDeliverable => 10
  | .controlLost => 11
  | .steerMiss => 12
  | .steerDiscard => 13
  | .pinnedMismatch => 14
  | .learnRefused => 15
  | .returnFull => 16
  | .noCells => 17
  | .returnLost => 18
  | .framesSent => 19

/-- R92, the order of the QUEUE group. -/
def QueueCounter.index : QueueCounter → Fin 13
  | .admitted => 0
  | .queueNotActive => 1
  | .noCells => 2
  | .noBatch => 3
  | .closedSize => 4
  | .closedCount => 5
  | .closedAge => 6
  | .closedFlush => 7
  | .closedHalt => 8
  | .framesPurged => 9
  | .framesAbandoned => 10
  | .framesDelivered => 11
  | .bundlesAcked => 12

/-- R115, the order of the TRUNK group. -/
def TrunkCounter.index : TrunkCounter → Fin 7
  | .bundlesSent => 0
  | .retransmissions => 1
  | .bundlesAbandoned => 2
  | .staleAck => 3
  | .malformedAck => 4
  | .controlSent => 5
  | .transmitAborted => 6

/-- R163, the order of the MGMT group. -/
def MgmtCounter.index : MgmtCounter → Fin 5
  | .mgmtDropped => 0
  | .responseLost => 1
  | .requestsTaken => 2
  | .notesSent => 3
  | .notesRefused => 4

/-- R80: the counter of a close reason. -/
def CloseReason.counter : CloseReason → QueueCounter
  | .size => .closedSize
  | .count => .closedCount
  | .age => .closedAge
  | .flush => .closedFlush
  | .halt => .closedHalt

/-- The counters of a group as READ_COUNTERS returns them, four bytes each. -/
def groupBytes {n : Nat} (t : Tab Word n) : List Byte := t.list.flatMap be32

end Sys2Proof.Machine
end

