-- ==== Sys2Proof/Machine/Ops.lean ====
section
/-! DEFINITION. The shared operations: reading and changing one part of the state, counting, raising an event, the
cell pool's grant and release with its monitor (R58 to R72), and the start of a transmission (R7, R8). -/

namespace Sys2Proof.Machine

abbrev Result := Host.Outcome State Fault Refusal

/-- R155: while RESET_N is low the part takes no event. Otherwise the step leaves `t`. -/
def live (s t : State) : Result := .next (if s.resetLow then s else t)

/-! ### One part of the state -/

def State.link (s : State) (p : Port) : Link := s.links.get p
def State.queue (s : State) (q : QueueId) : Queue := s.queues.get q
def State.trunk (s : State) (t : TrunkId) : Trunk := s.trunks.get t
def State.profile (s : State) (f : ProfileId) : Profile := s.profiles.get f
def State.account (s : State) (a : AcctId) : Account := s.pool.accounts.get a
def State.slot (s : State) (i : SlotId) : Slot := s.events.slots.get i

def State.modLink (s : State) (p : Port) (f : Link → Link) : State := { s with links := s.links.upd p f }
def State.modEdge (s : State) (f : Edge → Edge) : State := { s with edge := f s.edge }
def State.modSteer (s : State) (f : Steer → Steer) : State := { s with steer := f s.steer }
def State.modPool (s : State) (f : Pool → Pool) : State := { s with pool := f s.pool }
def State.modQueue (s : State) (q : QueueId) (f : Queue → Queue) : State := { s with queues := s.queues.upd q f }
def State.modProfile (s : State) (i : ProfileId) (f : Profile → Profile) : State :=
  { s with profiles := s.profiles.upd i f }
def State.modTrunk (s : State) (t : TrunkId) (f : Trunk → Trunk) : State := { s with trunks := s.trunks.upd t f }
def State.modMgmt (s : State) (f : Mgmt → Mgmt) : State := { s with mgmt := f s.mgmt }
def State.modEvents (s : State) (f : EventUnit → EventUnit) : State := { s with events := f s.events }
def State.modCounters (s : State) (f : Counters → Counters) : State := { s with counters := f s.counters }
def State.modSlot (s : State) (i : SlotId) (f : Slot → Slot) : State :=
  s.modEvents fun e => { e with slots := e.slots.upd i f }

/-! ### Counters (R162) -/

def State.countPort (s : State) (p : Port) (c : PortCounter) (n : Nat) : State :=
  s.modCounters fun k => { k with port := k.port.upd p fun g => g.upd c.index fun v => satAdd v n }

def State.countQueue (s : State) (q : QueueId) (c : QueueCounter) (n : Nat) : State :=
  s.modCounters fun k => { k with queue := k.queue.upd q fun g => g.upd c.index fun v => satAdd v n }

def State.countTrunk (s : State) (t : TrunkId) (c : TrunkCounter) (n : Nat) : State :=
  s.modCounters fun k => { k with trunk := k.trunk.upd t fun g => g.upd c.index fun v => satAdd v n }

def State.countMgmt (s : State) (c : MgmtCounter) (n : Nat) : State :=
  s.modCounters fun k => { k with mgmt := k.mgmt.upd c.index fun v => satAdd v n }

/-- The value of one counter. -/
def State.portCounter (s : State) (p : Port) (c : PortCounter) : Word := (s.counters.port.get p).get c.index
def State.queueCounter (s : State) (q : QueueId) (c : QueueCounter) : Word := (s.counters.queue.get q).get c.index
def State.trunkCounter (s : State) (t : TrunkId) (c : TrunkCounter) : Word := (s.counters.trunk.get t).get c.index
def State.mgmtCounter (s : State) (c : MgmtCounter) : Word := s.counters.mgmt.get c.index

/-! ### Raising events (R169) -/

/-- What one step of block `b` raises reaches the event unit as one arrival; raising nothing leaves no arrival. -/
def State.raise (s : State) (b : Block) (events : List Raise) : State :=
  match events with
  | [] => s
  | _ :: _ => s.modEvents fun e => { e with raised := e.raised ++ [{ block := b, events := events }] }

/-- A raise with a port, queue or bank as subject and a number as detail. -/
def raiseOf (k : EventKind) (subject detail : Nat) : Raise :=
  { kind := k, subject := byteOf subject, detail := BitVec.ofNat 32 detail }

/-! ### The cell pool -/

/-- R60: the reserve less the in-use count, or 0. -/
def Account.unused (a : Account) : Nat := a.reserve - a.inUse

/-- R60: the sum of the seventeen unused reserves. -/
def Pool.unusedSum (p : Pool) : Nat := (p.accounts.list.map Account.unused).sum

/-- R64: the sum of the seventeen reserves. -/
def Pool.reserveSum (p : Pool) : Nat := (p.accounts.list.map Account.reserve).sum

/-- R60, R71: the sum of the seventeen in-use counts. -/
def Pool.inUseSum (p : Pool) : Nat := (p.accounts.list.map Account.inUse).sum

inductive PoolRefusal where
  | noCells
  | noBatch
  deriving DecidableEq, Repr

/-- R61: the three tests in order. Test 2, n at most the unused reserve plus shared free, is written without a
subtraction: shared free is the free cells less the sum of the unused reserves. -/
def Pool.test (p : Pool) (a : AcctId) (n : Nat) (descriptor : Bool) : Option PoolRefusal :=
  if (p.accounts.get a).cap < (p.accounts.get a).inUse + n then some .noCells
  else if (p.accounts.get a).unused + p.freeCells < n + p.unusedSum then some .noCells
  else if descriptor && p.freeDescriptors == 0 then some .noBatch
  else none

/-- R61: what a granted request takes. -/
def Pool.take (p : Pool) (a : AcctId) (n : Nat) (descriptor : Bool) : Pool :=
  { p with
    freeCells := p.freeCells - n
    accounts := p.accounts.upd a fun c => { c with inUse := c.inUse + n }
    freeDescriptors := p.freeDescriptors - descriptor.toNat }

/-- R62: what a release gives back: `n` cells charged to `a`, and `d` descriptors. -/
def Pool.give (p : Pool) (a : AcctId) (n d : Nat) : Pool :=
  { p with
    freeCells := p.freeCells + n
    accounts := p.accounts.upd a fun c => { c with inUse := c.inUse - n }
    freeDescriptors := p.freeDescriptors + d }

/-- R69: the monitor compares the free cells with low-water. -/
def State.monitor (s : State) : State :=
  if s.pool.low then
    if s.pool.lowWater + Config.lowWaterBand ≤ s.pool.freeCells then
      (s.modPool fun p => { p with low := false }).raise .cellPool [raiseOf .poolRecovered 0 s.pool.freeCells]
    else s
  else
    if s.pool.freeCells < s.pool.lowWater then
      (s.modPool fun p => { p with low := true }).raise .cellPool [raiseOf .poolLow 0 s.pool.freeCells]
    else s

/-- R61, R69: a granted request, and the comparison after it. -/
def State.grantCells (s : State) (a : AcctId) (n : Nat) (descriptor : Bool) : State :=
  (s.modPool fun p => p.take a n descriptor).monitor

/-- R62, R69: one release, and the comparison after it; a release of no cell changes no free cells count and is not
compared (log 28). -/
def State.release (s : State) (a : AcctId) (n d : Nat) : State :=
  if n = 0 then s.modPool fun p => p.give a n d else (s.modPool fun p => p.give a n d).monitor

/-! ### The transmitter -/

/-- R7, R8: the transmitter stamps the frame with its count, advances the count, and sends. -/
def State.start (s : State) (p : Port) (f : Frame) (o : WireOwner) : State :=
  s.modLink p fun l =>
    { l with wire := some { frame := { f with seq := l.txCount }, owner := o }, txCount := l.txCount + 1 }

/-- R8: the transmitter is free. -/
def State.free (s : State) (p : Port) : Bool := (s.link p).up && (s.link p).wire.isNone

/-- R8: the transmitter stops the frame on the wire; at a trunk port the abort is counted. -/
def State.abort (s : State) (p : Port) : State :=
  match (s.link p).wire with
  | none => s
  | some _ =>
    let s1 := s.modLink p fun l => { l with wire := none }
    match p.side with
    | .edge _ => s1
    | .trunk t => s1.countTrunk t .transmitAborted 1

/-- The bundle with this trunk sequence is on the wire of the trunk port. -/
def State.onWire (s : State) (t : TrunkId) (seq : Byte) : Bool :=
  match (s.link t.port).wire with
  | some w => w.owner == .bundle seq
  | none => false

end Sys2Proof.Machine
end

