-- ==== Sys2Proof/Machine/Arbiter.lean ====
section
/-! DEFINITION. What each transmitter sends next: the window base and span (R117, R119), the bundle frame (R16, R112),
the trunk arbiter (R104 to R111), edge transmit selection (R39), and the offer of a frame to a control list (R13). -/

namespace Sys2Proof.Machine

/-! ### Window base and span -/

/-- R117: the oldest OUTSTANDING sequence, or the next sequence. -/
def Trunk.base (k : Trunk) : Byte :=
  match k.bundles.find? fun b => !b.retiring with
  | some b => b.seq
  | none => k.nextSeq

/-- R107, R119. -/
def Trunk.span (k : Trunk) : Nat := (k.nextSeq - k.base).toNat

/-- Changes the bundle with this sequence where it stands. -/
def Trunk.updBundle (k : Trunk) (seq : Byte) (f : Bundle → Bundle) : Trunk :=
  { k with bundles := k.bundles.map fun b => if b.seq = seq then f b else b }

/-! ### The bundle frame -/

/-- R16: the bundle header, with the window base as it stands now. -/
def bundleHeader (base : Byte) (b : Bundle) : List Byte :=
  [b.seq, base, byteOf b.batch.queue.val, byteOf b.batch.members.length,
    (b.batch.closeReason.map CloseReason.code).getD 0, byteOf b.retry] ++ be16n b.batch.byteSize

/-- R112: the BUNDLE frame built from the descriptor and the port's state at this moment; the link sequence is
stamped at the start. RETX is bit 0 of the flags. -/
def bundleFrame (s : State) (t : TrunkId) (b : Bundle) (retx : Bool) : Frame :=
  { kind := kindBundle, tag := 0, dst := (s.trunk t).collector, src := s.ownAddress, seq := 0,
    flags := byteOf retx.toNat,
    payload := bundleHeader (s.trunk t).base b ++ b.batch.members.flatMap Member.bytes }

/-! ### The arbiter -/

/-- R108: the queues in cyclic order, starting just after the pointer, the pointer itself last. -/
def cyclicAfter (pointer : QueueId) : List QueueId :=
  (List.finRange 16).map fun i => pointer + 1 + i

/-- R108. -/
def State.candidate (s : State) (t : TrunkId) (q : QueueId) : Bool :=
  (s.queue q).trunk == t && (s.queue q).state != .off && !(s.queue q).ready.isEmpty

/-- R108, R109: the queue to be granted, and the level whose pointer chose it (none for the ROUND_ROBIN pointer). -/
def State.choose (s : State) (t : TrunkId) : Option (QueueId × Option (Fin 4)) :=
  if (s.trunk t).priorityMode then
    [3, 2, 1, 0].findSome? fun level =>
      ((cyclicAfter ((s.trunk t).levelPointers.get level)).find? fun q =>
        s.candidate t q && (s.queue q).priority == level).map fun q => (q, some level)
  else
    ((cyclicAfter (s.trunk t).rrPointer).find? fun q => s.candidate t q).map fun q => (q, none)

/-- R110: the pointer that chose moves to the granted queue. -/
def Trunk.movePointer (k : Trunk) (level : Option (Fin 4)) (q : QueueId) : Trunk :=
  match level with
  | none => { k with rrPointer := q }
  | some l => { k with levelPointers := k.levelPointers.set l q }

/-- R111: the bundle that a batch becomes at its grant. -/
def Bundle.granted (b : Batch) (seq : Byte) : Bundle :=
  { batch := b, seq := seq, retry := 0, due := none, retryDeadline := none, retiring := false }

/-- R111: the head batch of the queue becomes an OUTSTANDING bundle and its first transmission starts. -/
def State.grant (s : State) (t : TrunkId) (q : QueueId) (level : Option (Fin 4)) : State :=
  match (s.queue q).ready with
  | [] => s
  | b :: rest =>
    let bundle := Bundle.granted b (s.trunk t).nextSeq
    let s1 := s.modQueue q fun u => { u with ready := rest, outstanding := u.outstanding + 1 }
    let s2 := s1.modTrunk t fun k =>
      { (k.movePointer level q) with bundles := k.bundles ++ [bundle], nextSeq := k.nextSeq + 1 }
    let s3 := s2.countTrunk t .bundlesSent 1
    s3.start t.port (bundleFrame s3 t bundle false) (.bundle bundle.seq)

/-- R106: the bundle as its resend starts. -/
def Bundle.resent (b : Bundle) : Bundle :=
  { b with
    due := none
    retry := if b.due = some .counted then min (b.retry + 1) Config.retryCountMax else b.retry }

/-- R106: a due bundle is sent again. -/
def State.resend (s : State) (t : TrunkId) (b : Bundle) : State :=
  let s1 := s.modTrunk t fun k => k.updBundle b.seq Bundle.resent
  let s2 := s1.countTrunk t .retransmissions 1
  s2.start t.port (bundleFrame s2 t b.resent true) (.bundle b.seq)

/-- R105: the oldest OUTSTANDING bundle whose due flag is set. -/
def Trunk.oldestDue (k : Trunk) : Option Bundle := k.bundles.find? fun b => !b.retiring && b.due.isSome

/-- R107, R105 step 3: a new grant, if one is allowed. -/
def State.grantNext (s : State) (t : TrunkId) : State :=
  if (s.trunk t).state = .running ∧ (s.trunk t).span < (s.trunk t).windowSize then
    match s.choose t with
    | some (q, level) => s.grant t q level
    | none => s
  else s

/-- R105: a decision of the arbiter, made when the transmitter is free. -/
def State.trunkSelect (s : State) (t : TrunkId) : State :=
  if s.free t.port then
    match (s.link t.port).control with
    | c :: _ => s.start t.port c.frame .control
    | [] =>
      if (s.trunk t).state = .running ∨ (s.trunk t).state = .stopping then
        match (s.trunk t).oldestDue with
        | some b => s.resend t b
        | none => s.grantNext t
      else s
  else s

/-- R39: edge transmit selection, made when the transmitter is free. -/
def State.edgeSelect (s : State) (e : EdgeId) : State :=
  if s.free e.port then
    match (s.link e.port).control with
    | c :: _ => s.start e.port c.frame .control
    | [] =>
      match s.edge.returns.get e with
      | f :: _ => s.start e.port f .returnFrame
      | [] => s
  else s

/-- R8: the port's selector is asked. -/
def State.select (s : State) (p : Port) : State :=
  match p.side with
  | .edge e => s.edgeSelect e
  | .trunk t => s.trunkSelect t

/-! ### The control list -/

/-- R13: the three outcomes of an offer. -/
inductive Offer where
  | accepted
  | full
  | linkDown
  deriving DecidableEq, Repr

/-- R13: the outcome an offer to this port's control list has now. -/
def State.offer (s : State) (p : Port) : Offer :=
  if !(s.link p).up then .linkDown
  else if (s.link p).control.length < Config.controlListMax then .accepted
  else .full

/-- R13, R104: an accepted frame joins the tail, and its acceptance is a moment at which the selector is asked. -/
def State.place (s : State) (p : Port) (c : ControlFrame) : State :=
  (s.modLink p fun l => { l with control := l.control ++ [c] }).select p

end Sys2Proof.Machine
end

