-- ==== Sys2Proof/Machine/Notify.lean ====
section
/-! DEFINITION. The event unit: NOTE frames and opportunities (R177), the three sets of a slot (R176), the taking of a
raise (R169, R171). -/

namespace Sys2Proof.Machine

/-- R21, R177: the NOTE that slot `i` offers now. -/
def noteFrame (s : State) (i : SlotId) : Frame :=
  { kind := kindNote, tag := 0, dst := (s.slot i).addr, src := s.ownAddress, seq := 0, flags := 0,
    payload := [byteOf i.val, (s.slot i).noteSeq] ++ be16 (s.slot i).owed ++ be32 s.now ++ be32 s.events.lost }

/-- R177: a slot is ready to send. -/
def Slot.ready (x : Slot) : Bool := x.inUse && x.owed != 0

/-- R177: a slot whose NOTE has been accepted. -/
def Slot.noted (x : Slot) (now : Word) : Slot :=
  { x with
    pending := x.pending ||| x.owed
    owed := 0
    noteSeq := x.noteSeq + 1
    repeatDeadline :=
      if x.repeatInterval = 0 then x.repeatDeadline else some (deadlineAfter now (1000 * x.repeatInterval)) }

/-- R177: the slots in turn offer their NOTEs at port `p`; the first refusal ends the opportunity. -/
def State.offerNotes (p : Port) : List SlotId → State → State
  | [], s => s
  | i :: rest, s =>
    if (s.slot i).ready && (s.slot i).port == p then
      match s.offer p with
      | .accepted =>
        State.offerNotes p rest
          (((s.modSlot i fun x => x.noted s.now).countMgmt .notesSent 1).place p
            { frame := noteFrame s i, restart := false })
      | .full => s.countMgmt .notesRefused 1
      | .linkDown => s.countMgmt .notesRefused 1
    else State.offerNotes p rest s

/-- R177: an opportunity to send at port `p`. -/
def State.opportunity (s : State) (p : Port) : State := s.offerNotes p (List.finRange 8)

/-- R176: the slot is in use and is told of the kind. -/
def Slot.subscribes (x : Slot) (k : EventKind) : Bool := x.inUse && x.kindSet &&& k.bit != 0

/-- R176: an event of kind `k` acts on a slot. -/
def Slot.act (x : Slot) (k : EventKind) : Slot :=
  if x.subscribes k then
    if x.pending &&& k.bit != 0 then { x with recurred := x.recurred ||| k.bit }
    else { x with owed := x.owed ||| k.bit }
  else x

/-- R169, R177: the raise has put the kind in the slot's owed set (log 19). -/
def Slot.comesToOwe (x : Slot) (k : EventKind) : Bool := x.subscribes k && x.pending &&& k.bit == 0

/-- R169, R171: the kinds a raise acts with: its own, and RECORDS_LOST when its record is discarded. -/
def State.kindsOf (s : State) (r : Raise) : List EventKind :=
  if Config.recordQueueMax ≤ s.events.records.length then [r.kind, .recordsLost] else [r.kind]

/-- R169, R171: the record is appended, or discarded and counted at a full queue. -/
def State.record (s : State) (r : Raise) : State :=
  s.modEvents fun e =>
    if Config.recordQueueMax ≤ e.records.length then { e with lost := satAdd e.lost 1 }
    else { e with records := e.records ++ [{ kind := r.kind, subject := r.subject, detail := r.detail, time := s.now }] }

/-- R176: the kinds act on every slot. -/
def State.actSlots (s : State) (ks : List EventKind) : State :=
  s.modEvents fun e => { e with slots := e.slots.map fun x => ks.foldl Slot.act x }

/-- R169: the ports whose slots come to owe kinds by this raise. -/
def State.owingPorts (s : State) (ks : List EventKind) : List Port :=
  (List.finRange 12).filter fun p =>
    s.events.slots.list.any fun x => x.port == p && ks.any fun k => x.comesToOwe k

/-- R169: the event unit takes one raise, whole. -/
def State.takeRaise (s : State) (r : Raise) : State :=
  (s.owingPorts (s.kindsOf r)).foldl State.opportunity ((s.record r).actSlots (s.kindsOf r))

/-- R169: raises taken one after another with no other event between them. -/
def State.takeRaises (s : State) (rs : List Raise) : State := rs.foldl State.takeRaise s

/-- R169: the event unit takes the oldest waiting arrival of block `b`. -/
def State.takeArrival (s : State) (b : Block) : State :=
  match s.events.raised.find? fun a => a.block == b with
  | none => s
  | some a => (s.modEvents fun e => { e with raised := e.raised.eraseP fun a => a.block == b }).takeRaises a.events

/-- Every waiting arrival of block `b`, in order (log 5). -/
def State.takeAllOf (s : State) (b : Block) : State :=
  (s.modEvents fun e => { e with raised := e.raised.filter fun a => a.block != b }).takeRaises
    ((s.events.raised.filter fun a => a.block == b).flatMap Arrival.events)

end Sys2Proof.Machine
end

