-- ==== Sys2Proof/Machine/Queues.lean ====
section
/-! DEFINITION. The queue unit: admission and batch formation (R77 to R80), drain completion (R86), purge (R89); and the
delivery window: retirement (R125), abandonment (R130, R102), acknowledgement (R123, R124), the emptied window (R99). -/

namespace Sys2Proof.Machine

/-! ### Batch formation -/

/-- R75, R78: a batch opened now by this member, with the limits of the queue's profile. -/
def State.openingBatch (s : State) (q : QueueId) (m : Member) : Batch :=
  let f := s.profile (s.queue q).profile
  { queue := q, members := [m], threshold := f.threshold, frameLimit := f.frameLimit, openTime := s.now,
    ageDeadline := if f.ageLimit = 0 then none else some (deadlineAfter s.now f.ageLimit), closeReason := none }

/-- R80: the batch as it closes. -/
def Batch.closed (b : Batch) (r : CloseReason) : Batch := { b with closeReason := some r, ageDeadline := none }

/-- R80: the open batch, if any, closes and joins the ready list. -/
def State.closeOpen (s : State) (q : QueueId) (r : CloseReason) : State :=
  match (s.queue q).openBatch with
  | none => s
  | some b =>
    (s.modQueue q fun u => { u with openBatch := none, ready := u.ready ++ [b.closed r] }).countQueue q r.counter 1

/-- R79: the open batch is tested against its own limits. -/
def State.testLimits (s : State) (q : QueueId) : State :=
  match (s.queue q).openBatch with
  | none => s
  | some b =>
    if b.byteSize = b.threshold then s.closeOpen q .size
    else if b.members.length = b.frameLimit then s.closeOpen q .count
    else s

/-- R78: the member fits the open batch. -/
def Queue.fits (u : Queue) (m : Member) : Bool :=
  match u.openBatch with
  | some b => b.byteSize + m.size ≤ b.threshold
  | none => false

/-- R78: the granted member joins the open batch, or closes it with SIZE and opens another. -/
def State.store (s : State) (q : QueueId) (m : Member) : State :=
  if (s.queue q).fits m then
    s.modQueue q fun u => { u with openBatch := u.openBatch.map fun b => { b with members := b.members ++ [m] } }
  else
    (s.closeOpen q .size).modQueue q fun u => { u with openBatch := some (s.openingBatch q m) }

/-- R104: the closing of a batch into the ready list is a decision point of the queue's trunk port; `before` batches
stood there before this step. -/
def State.offerClosed (s : State) (q : QueueId) (before : Nat) : State :=
  if before < (s.queue q).ready.length then s.trunkSelect (s.queue q).trunk else s

/-- R77, R78: a member steered to queue `q`. -/
def State.enrol (s : State) (q : QueueId) (m : Member) : State :=
  if (s.queue q).state = .active then
    let needs := !(s.queue q).fits m
    match s.pool.test q.acct m.cells needs with
    | some .noCells => s.countQueue q .noCells 1
    | some .noBatch => s.countQueue q .noBatch 1
    | none =>
      ((((s.grantCells q.acct m.cells needs).countQueue q .admitted 1).store q m).testLimits q).offerClosed q
        (s.queue q).ready.length
  else s.countQueue q .queueNotActive 1

/-! ### Drain completion -/

/-- R86. -/
def State.drained (s : State) (q : QueueId) : Bool :=
  (s.queue q).state == .halting && (s.queue q).ready.isEmpty && (s.queue q).outstanding == 0 &&
    (s.account q.acct).inUse == 0

/-- R86: the queue goes OFF, its drain deadline gone. -/
def Queue.turnedOff (u : Queue) : Queue := { u with state := .off, drain := none }

/-- R86: the drain completion test, with the event it raises. -/
def State.drainTest (s : State) (q : QueueId) : State × List Raise :=
  if s.drained q then (s.modQueue q Queue.turnedOff, [raiseOf .queueOff q.val 1]) else (s, [])

/-! ### Release of bundles -/

/-- R62, R91: the bundle leaves the window, its storage is released, and its queue counts one bundle fewer. -/
def State.releaseBundle (s : State) (t : TrunkId) (b : Bundle) : State :=
  ((s.modTrunk t fun k => { k with bundles := k.bundles.eraseP fun x => x.seq == b.seq }).release
      b.batch.queue.acct b.batch.cells 1).modQueue
    b.batch.queue fun u => { u with outstanding := u.outstanding - 1 }

/-- R125: a bundle is retired. -/
def State.retire (s : State) (t : TrunkId) (b : Bundle) : State × List Raise :=
  let q := b.batch.queue
  (((s.releaseBundle t b).countQueue q .framesDelivered b.batch.members.length).countQueue q .bundlesAcked 1).drainTest q

/-- R102, R130: a bundle is abandoned; the event of R130 is the caller's. The increases in the QUEUE and in the TRUNK group
are made in this one step; that no read falls between them (R162) is the model's choice (log 33). -/
def State.abandon (s : State) (t : TrunkId) (b : Bundle) : State × List Raise :=
  let q := b.batch.queue
  (((s.releaseBundle t b).countQueue q .framesAbandoned b.batch.members.length).countTrunk t .bundlesAbandoned 1).drainTest
    q

/-- R99: what the trunk unit does when the window is left empty. -/
def State.windowEmptied (s : State) (t : TrunkId) : State :=
  if (s.trunk t).bundles.isEmpty then
    match (s.trunk t).state with
    | .stopping => s.modTrunk t fun k => { k with state := .disabled }
    | .holding =>
      s.modTrunk t fun k =>
        { k with hold := none, state := if k.stopRequested then .disabled else .waiting, stopRequested := false }
    | .disabled | .waiting | .running => s
  else s

/-! ### Acknowledgement -/

/-- R123. -/
def ackMalformed (payload : List Byte) : Bool :=
  payload.isEmpty || (byteAt payload 0).toNat == 0 || 8 < (byteAt payload 0).toNat ||
    payload.length != 1 + (byteAt payload 0).toNat

/-- R124: one listed sequence, against the window as the earlier ones have left it. -/
def State.ackOne (t : TrunkId) (acc : State × List Raise) (seq : Byte) : State × List Raise :=
  match (acc.1.trunk t).bundles.find? fun b => b.seq == seq with
  | none => (acc.1.countTrunk t .staleAck 1, acc.2)
  | some b =>
    if b.retiring then (acc.1.countTrunk t .staleAck 1, acc.2)
    else if acc.1.onWire t seq then
      (acc.1.modTrunk t fun k => k.updBundle seq fun x => { x with retiring := true }, acc.2)
    else ((acc.1.retire t b).1, acc.2 ++ (acc.1.retire t b).2)

/-- R123, R124: an ACK payload handed to the window of trunk port `t`; it is a decision point if it released a bundle. -/
def State.takeAck (s : State) (t : TrunkId) (payload : List Byte) : State :=
  if ackMalformed payload then s.countTrunk t .malformedAck 1
  else
    let r := (payload.drop 1).foldl (State.ackOne t) (s, [])
    let s1 := (r.1.raise .queueUnit r.2).windowEmptied t
    if (s1.trunk t).bundles.length < (s.trunk t).bundles.length then s1.trunkSelect t else s1

/-! ### Hold expiry and drain expiry -/

/-- R102, step 1: the bundles are abandoned, oldest first. -/
def State.abandonAll (s : State) (t : TrunkId) : State × List Raise :=
  (s.trunk t).bundles.foldl (fun acc b => ((acc.1.abandon t b).1, acc.2 ++ (acc.1.abandon t b).2)) (s, [])

/-- R102: the hold of trunk port `t` ends by its deadline. -/
def State.holdExpires (s : State) (t : TrunkId) : State :=
  let n := (s.trunk t).bundles.length
  let r := s.abandonAll t
  (r.1.raise (.trunkUnit t) (r.2 ++ [raiseOf .holdExpired t.port.val n])).modTrunk t fun k =>
    { k with hold := none, state := if k.stopRequested then .disabled else .waiting, stopRequested := false }

/-- The bundles of queue `q` in a window. -/
def Trunk.bundlesOf (k : Trunk) (q : QueueId) : List Bundle := k.bundles.filter fun b => b.batch.queue == q

/-- The bundle on the wire of trunk port `t` belongs to queue `q`. -/
def State.sendsFor (s : State) (t : TrunkId) (q : QueueId) : Bool :=
  ((s.trunk t).bundlesOf q).any fun b => s.onWire t b.seq

/-- R87, R88: the drain of queue `q` ends by force. -/
def State.drainExpires (s : State) (q : QueueId) : State :=
  let t := (s.queue q).trunk
  let ready := (s.queue q).ready
  let sent := ((s.trunk t).bundlesOf q).map Bundle.batch
  let gone := ready ++ sent
  let s1 := if s.sendsFor t q then s.abort t.port else s
  let s2 := s1.modTrunk t fun k => { k with bundles := k.bundles.filter fun b => b.batch.queue != q }
  let s3 := s2.release q.acct (gone.map Batch.cells).sum gone.length
  let s4 := s3.countQueue q .framesAbandoned (gone.map fun b => b.members.length).sum
  let s5 := s4.modQueue q fun u => { u.turnedOff with ready := [], outstanding := 0 }
  let s6 := s5.raise .queueUnit [raiseOf .queueOff q.val 2]
  if sent.isEmpty then s6 else (s6.windowEmptied t).trunkSelect t

/-- What a queue's open batch and ready list hold. -/
def Queue.held (u : Queue) : List Batch := u.openBatch.toList ++ u.ready

/-- R89: the open and the ready batches are released. -/
def State.purge (s : State) (q : QueueId) : State :=
  let gone := (s.queue q).held
  let s1 := s.modQueue q fun u => { u with openBatch := none, ready := [] }
  let s2 := s1.release q.acct (gone.map Batch.cells).sum gone.length
  let s3 := s2.countQueue q .framesPurged (gone.map fun b => b.members.length).sum
  (s3.drainTest q).1.raise .queueUnit (s3.drainTest q).2

end Sys2Proof.Machine
end

