-- ==== Sys2Proof/Machine/EdgeUnit.lean ====
section
/-! DEFINITION. The edge unit: the node directory (R26 to R31), the return path (R36 to R38), the return lists (R24,
R25, R39); and the steering unit's classification (R43 to R46). -/

namespace Sys2Proof.Machine

/-! ### The directory -/

/-- R26: the position and entry of a node address. -/
def Edge.lookup (e : Edge) (addr : Half) : Option (DirPos × DirEntry) :=
  e.directory.entries.findSome? fun x =>
    match x.2 with
    | some d => if d.addr = addr then some (x.1, d) else none
    | none => none

/-- R26: the lowest-numbered free position. -/
def Edge.freePosition (e : Edge) : Option DirPos :=
  (e.directory.entries.find? fun x => x.2.isNone).map Prod.fst

/-- R26: the directory is full when no position is free. -/
def Edge.full (e : Edge) : Bool := e.directory.list.all Option.isSome

/-- R30: the flag is cleared whenever the directory goes from full to having a free position. -/
def Edge.setDirectory (e : Edge) (d : Tab (Option DirEntry) 64) : Edge :=
  { e with
    directory := d
    fullRefusal := e.fullRefusal && !(e.full && !d.list.all Option.isSome) }

/-- One position takes an entry or becomes free. -/
def Edge.putEntry (e : Edge) (i : DirPos) (d : Option DirEntry) : Edge := e.setDirectory (e.directory.set i d)

/-- Positions whose entry meets `gone` become free. -/
def Edge.removeEntries (e : Edge) (gone : DirEntry → Bool) : Edge :=
  e.setDirectory (e.directory.map fun o => o.filter fun d => !gone d)

/-- How many entries meet `gone`. -/
def Edge.countEntries (e : Edge) (gone : DirEntry → Bool) : Nat :=
  (e.directory.list.filter fun o => o.any gone).length

/-- R28 to R30: the source of a DATA frame at edge port `k` is learned. -/
def State.learn (s : State) (k : EdgeId) (src : Half) : State :=
  match s.edge.lookup src with
  | some (i, d) =>
    match d.origin with
    | .pinned => if d.port = k then s else s.countPort k.port .pinnedMismatch 1
    | .learned =>
      let s1 := s.modEdge fun e => e.putEntry i (some { d with port := k, lastSeen := e.seconds })
      if d.port = k then s1 else s1.raise .edgeUnit [raiseOf .nodeMoved k.val src.toNat]
  | none =>
    match s.edge.freePosition with
    | some i =>
      s.modEdge fun e => e.putEntry i (some { addr := src, port := k, origin := .learned, lastSeen := e.seconds })
    | none =>
      let s1 := s.countPort k.port .learnRefused 1
      if s.edge.fullRefusal then s1
      else (s1.modEdge fun e => { e with fullRefusal := true }).raise .edgeUnit [raiseOf .directoryFull k.val src.toNat]

/-- R31: an entry the aging scan removes. -/
def Edge.aged (e : Edge) (d : DirEntry) : Bool :=
  d.origin == .learned && e.directoryAge != 0 && e.directoryAge < (e.seconds - d.lastSeen).toNat

/-! ### The return path -/

/-- R23: the edge port is ENABLED and its link is UP. -/
def State.returnTarget (s : State) (k : EdgeId) : Bool := s.edge.enabled.get k && (s.link k.port).up

/-- R38: a return frame from trunk port `t` is admitted to the return list of `k`. -/
def State.returnAdmit (t : TrunkId) (f : Frame) (s : State) (k : EdgeId) : State :=
  if Config.returnListMax ≤ (s.edge.returns.get k).length then s.countPort t.port .returnFull 1
  else
    match s.pool.test retAcct (returnCells f) false with
    | some _ => s.countPort t.port .noCells 1
    | none =>
      ((s.grantCells retAcct (returnCells f) false).modEdge fun e =>
        { e with returns := e.returns.upd k fun l => l ++ [f] }).edgeSelect k

/-- R37: the edge ports a broadcast is copied to, in port order. -/
def State.returnTargets (s : State) : List EdgeId := (List.finRange 8).filter s.returnTarget

/-- R36, R37: a DATA frame that trunk port `t` hands to the return path. -/
def State.returnPath (s : State) (t : TrunkId) (f : Frame) : State :=
  if f.dst = Config.broadcast then
    match s.returnTargets with
    | [] => s.countPort t.port .notDeliverable 1
    | k :: ks => (k :: ks).foldl (State.returnAdmit t f) s
  else
    match s.edge.lookup f.dst with
    | some (_, d) =>
      if s.returnTarget d.port then s.returnAdmit t f d.port else s.countPort t.port .notDeliverable 1
    | none => s.countPort t.port .notDeliverable 1

/-- The frames `gone` leave the return list of `k`, which keeps `kept`; their cells are freed in one release. -/
def State.dropReturns (s : State) (k : EdgeId) (kept gone : List Frame) : State :=
  (s.modEdge fun e => { e with returns := e.returns.set k kept }).release retAcct (gone.map returnCells).sum 0

/-- R24, R25: removed frames are counted lost. -/
def State.loseReturns (s : State) (k : EdgeId) (kept gone : List Frame) : State :=
  (s.dropReturns k kept gone).countPort k.port .returnLost gone.length

/-- A return frame of this port is on the wire. -/
def State.sendsReturn (s : State) (k : EdgeId) : Bool :=
  match (s.link k.port).wire with
  | some w => w.owner == .returnFrame
  | none => false

/-! ### Classification -/

/-- R41. -/
def Steer.bank (x : Steer) (which : Bank) : Tab SteerEntry 256 :=
  match which with
  | .a => x.bankA
  | .b => x.bankB

def Steer.hits (x : Steer) (which : Bank) : Tab Word 256 :=
  match which with
  | .a => x.hitsA
  | .b => x.hitsB

def Steer.setBank (x : Steer) (which : Bank) (t : Tab SteerEntry 256) : Steer :=
  match which with
  | .a => { x with bankA := t }
  | .b => { x with bankB := t }

def Steer.setHits (x : Steer) (which : Bank) (t : Tab Word 256) : Steer :=
  match which with
  | .a => { x with hitsA := t }
  | .b => { x with hitsB := t }

def Steer.activeBank (x : Steer) : Tab SteerEntry 256 := x.bank x.active
def Steer.shadowBank (x : Steer) : Tab SteerEntry 256 := x.bank x.active.other
def Steer.setShadow (x : Steer) (t : Tab SteerEntry 256) : Steer := x.setBank x.active.other t

/-- R43: the entry matches a frame from `src` with tag `tag` at edge port `k`. -/
def SteerEntry.hit (e : SteerEntry) (k : EdgeId) (src : Half) (tag : Byte) : Bool :=
  e.valid && e.portSet.getLsbD k.val && src &&& e.srcMask == e.srcValue &&& e.srcMask &&
    tag &&& e.tagMask == e.tagValue &&& e.tagMask

/-- R44: the first entry of the active bank, in ascending order, that matches. -/
def Steer.decide (x : Steer) (k : EdgeId) (src : Half) (tag : Byte) : Option (EntryId × SteerEntry) :=
  x.activeBank.entries.find? fun p => p.2.hit k src tag

/-- R46. -/
def Steer.countHit (x : Steer) (i : EntryId) : Steer :=
  x.setHits x.active ((x.hits x.active).upd i fun v => satAdd v 1)

/-- R17, R78: the member record of an edge DATA frame. -/
def memberOf (k : EdgeId) (f : Frame) : Member :=
  { src := f.src, tag := f.tag, nodeSeq := f.seq, port := k, payload := f.payload }

/-- R44, R45: what an action does with a frame. -/
def State.steerTo (s : State) (a : SteerAction) (q : QueueId) (k : EdgeId) (f : Frame) : State :=
  match a with
  | .toQueue => s.enrol q (memberOf k f)
  | .discard => s.countPort k.port .steerDiscard 1

/-- R44, R45: a DATA frame at edge port `k` is classified. -/
def State.classify (s : State) (k : EdgeId) (f : Frame) : State :=
  match s.steer.decide k f.src f.tag with
  | some (i, e) => (s.modSteer fun x => x.countHit i).steerTo e.action e.queue k f
  | none => (s.countPort k.port .steerMiss 1).steerTo s.steer.defaultAction s.steer.defaultQueue k f

end Sys2Proof.Machine
end

