-- ==== Sys2Proof/Machine/Requests.lean ====
section
/-! DEFINITION. The management unit's handling of any request: its arrival (R136, R137), its taking (R138), lease
renewal (R147), the checks (R139), the response and its fate (R142, R143, R152, R153). -/

namespace Sys2Proof.Machine

/-- R20, R141: what a request is answered. -/
structure Reply where
  status : Status
  data : List Byte
  deriving DecidableEq, Repr

/-- An OK answer with data, and a refusal without data. -/
def Reply.done (data : List Byte) : Reply := { status := .ok, data := data }
def Reply.refuse (st : Status) : Reply := { status := st, data := [] }

/-- R141, R144: the owner address, 0x0000 when the part has no owner. -/
def State.ownerAddress (s : State) : Half := (s.mgmt.owner.map Owner.addr).getD Config.noNode

/-- R139, check 2: the part has an owner and it is this address. -/
def State.ownedBy (s : State) (addr : Half) : Bool :=
  match s.mgmt.owner with
  | some o => o.addr == addr
  | none => false

/-! ### Arrival -/

/-- R136, R137: a request handed over by the link layer. -/
def State.requestArrives (s : State) (r : Request) : State :=
  if s.mgmt.requests.length < Config.requestQueueMax then
    s.modMgmt fun m => { m with requests := m.requests ++ [r] }
  else
    let s1 := s.countMgmt .mgmtDropped 1
    if s.mgmt.overflow then s1
    else
      (s1.modMgmt fun m => { m with overflow := true }).raise .managementUnit
        [raiseOf .mgmtOverflow r.port.val r.src.toNat]

/-! ### The response -/

/-- R5, R20, R142: the response frame. -/
def responseFrame (own : Half) (r : Request) (a : Reply) : Frame :=
  { kind := kindMgmt, tag := 0, dst := r.src, src := own, seq := 0, flags := 0,
    payload := r.id ++ [r.code, a.status.code] ++ be16n a.data.length ++ a.data }

/-- R142, R152: where the unit goes when the response has been placed. -/
def ControlFrame.placedMode (c : ControlFrame) : MgmtMode := if c.restart then .restartWait else .ready

/-- R142, R143, R152: the response is dropped; that of a RESTART is not counted, and the restart is due. -/
def State.loseResponse (s : State) (c : ControlFrame) : State :=
  if c.restart then s.modMgmt fun m => { m with mode := .restartDue }
  else (s.modMgmt fun m => { m with mode := .ready }).countMgmt .responseLost 1

/-- R142, R143: the response is offered to its port's control list. -/
def State.respond (s : State) (p : Port) (c : ControlFrame) : State :=
  match s.offer p with
  | .accepted => (s.modMgmt fun m => { m with mode := c.placedMode }).place p c
  | .linkDown => s.loseResponse c
  | .full => s.modMgmt fun m => { m with mode := .responseWait c p (deadlineAfter s.now Config.responseWait) }

/-- R143: a removal from the control list of port `p` lets the unit offer a held response again. -/
def State.reoffer (s : State) (p : Port) : State :=
  match s.mgmt.mode with
  | .responseWait c q _ =>
    if q = p then
      match s.offer p with
      | .accepted => (s.modMgmt fun m => { m with mode := c.placedMode }).place p c
      | .linkDown => s
      | .full => s
    else s
  | .ready => s
  | .restartWait => s
  | .restartDue => s

/-! ### The taking -/

/-- R147: a request from the owner renews the lease and moves the owner port. -/
def Mgmt.renew (m : Mgmt) (now : Word) (r : Request) : Mgmt :=
  match m.owner with
  | some o =>
    if o.addr = r.src then
      { m with owner := some { o with port := r.port, lease := deadlineAfter now (1000 * m.leaseTime) } }
    else m
  | none => m

/-- R137, R138, R147: the head `r` leaves the queue, which keeps `rest`. -/
def State.taken (s : State) (r : Request) (rest : List Request) : State :=
  (s.modMgmt fun m =>
    { (m.renew s.now r) with requests := rest, overflow := m.overflow && !rest.isEmpty }).countMgmt .requestsTaken 1

/-- R139, R140: the form check, the ownership check, then the execution by the owning block. -/
def State.execute (s : State) (r : Request) (body : State → Request → State × Reply) : State × Reply :=
  if !r.wellFormed then (s, .refuse .badRequest)
  else if r.mutating && !s.ownedBy r.src then (s, { status := .notOwner, data := be16 s.ownerAddress })
  else body s r

/-- R138: the unit is READY and the head of the queue is a request that this row takes. -/
def State.takes (s : State) (row : RequestRow) : Bool :=
  s.mgmt.mode == .ready && s.mgmt.requests.head?.any fun r => r.row == row

/-- R138 to R142: the taking of the head of the request queue by the step of row `row`; without such a request the step
does not happen (log 2, log 8). -/
def State.takeRequest (s : State) (row : RequestRow) (body : State → Request → State × Reply) : State :=
  match s.mgmt.requests with
  | [] => s
  | r :: rest =>
    if s.mgmt.mode = .ready ∧ r.row = row then
      let x := (s.taken r rest).execute r body
      x.1.respond r.port
        { frame := responseFrame x.1.ownAddress r x.2, restart := row == .restart && x.2.status == .ok }
    else s

end Sys2Proof.Machine
end

