-- ==== Sys2Proof/Machine/Links.lean ====
section
/-! DEFINITION. The commands of the link layer: link reports, receptions and transmission ends (R1 to R15, R24, R25, R36,
R100, R101, R113). -/

namespace Sys2Proof.Machine

/-! ### LINK_UP -/

/-- R101: every bundle whose due flag is clear becomes due in the uncounted form. -/
def Bundle.heldDue (b : Bundle) : Bundle := { b with due := some (b.due.getD .uncounted) }

/-- R101: a trunk unit takes a report of link UP. -/
def Trunk.linkUp (k : Trunk) : Trunk :=
  match k.state with
  | .waiting => { k with state := .running }
  | .holding =>
    { k with
      hold := none
      state := if k.stopRequested then .stopping else .running
      stopRequested := false
      bundles := k.bundles.map Bundle.heldDue }
  | .disabled | .running | .stopping => k

/-- R101 at trunk ports; an edge port's units change nothing at link UP (R25). -/
def State.unitsLinkUp (s : State) (p : Port) : State :=
  match p.side with
  | .edge _ => s
  | .trunk t => s.modTrunk t Trunk.linkUp

/-- R2, R25, R101, R177: a report of UP at a port whose link is DOWN. The event unit takes the raise and the opportunity
before the port's selector is asked (log 5). -/
def State.linkComesUp (s : State) (p : Port) : State :=
  let s1 := s.modLink p fun l => { l with up := true }
  let s2 := (s1.unitsLinkUp p).raise (.linkLayer p) [raiseOf .linkUp p.val 0]
  ((s2.takeAllOf (.linkLayer p)).opportunity p).select p

/-- LINK_UP (R2). -/
def execLinkUp (p : Port) (s : State) : Result := live s (if (s.link p).up then s else s.linkComesUp p)

/-! ### LINK_DOWN -/

/-- R8, R100, R122: the abort is reported to the window; a RETIRING bundle on the wire is retired. -/
def State.windowAbort (s : State) (t : TrunkId) (w : Option OnWire) : State :=
  match w with
  | none => s
  | some x =>
    match x.owner with
    | .control => s
    | .returnFrame => s
    | .bundle seq =>
      match (s.trunk t).bundles.find? fun b => b.seq == seq with
      | none => s
      | some b =>
        if b.retiring then ((s.retire t b).1.raise .queueUnit (s.retire t b).2).windowEmptied t else s

/-- R100: on entry to HOLDING the retry deadlines are suspended and the hold deadline is set. -/
def Trunk.enterHold (k : Trunk) (now : Word) (stop : Bool) : Trunk :=
  { k with
    state := .holding
    stopRequested := stop
    hold := some (deadlineAfter now (1000 * k.holdTime))
    bundles := k.bundles.map fun b => { b with retryDeadline := none } }

/-- R100: the trunk unit takes a report of link DOWN, after the abort; with a hold time of 0 the hold expires in the
same step. -/
def State.trunkLinkDown (s : State) (t : TrunkId) : State :=
  let k := s.trunk t
  match k.state with
  | .running =>
    if k.bundles.isEmpty then s.modTrunk t fun k => { k with state := .waiting }
    else
      let s1 := s.modTrunk t fun k => k.enterHold s.now false
      if k.holdTime = 0 then s1.holdExpires t else s1
  | .stopping =>
    if k.bundles.isEmpty then s.modTrunk t fun k => { k with state := .disabled }
    else
      let s1 := s.modTrunk t fun k => k.enterHold s.now true
      if k.holdTime = 0 then s1.holdExpires t else s1
  | .disabled | .waiting | .holding => s

/-- R25: the edge unit takes a report of link DOWN: learned entries on the port and the whole return list go. -/
def State.edgeLinkDown (s : State) (k : EdgeId) : State :=
  (s.modEdge fun e => e.removeEntries fun d => d.port == k && d.origin == .learned).loseReturns k []
    (s.edge.returns.get k)

/-- R143, R153: the management unit takes a report of link DOWN at port `p`, whose control list held `lost`. -/
def State.mgmtLinkDown (s : State) (p : Port) (lost : List ControlFrame) : State :=
  match s.mgmt.mode with
  | .responseWait c q _ => if q = p then s.loseResponse c else s
  | .restartWait => if lost.any ControlFrame.restart then s.modMgmt fun m => { m with mode := .restartDue } else s
  | .ready => s
  | .restartDue => s

/-- R25 at an edge port, R100 and R122 at a trunk port; `w` is the frame that was on the wire. -/
def State.unitsLinkDown (s : State) (p : Port) (w : Option OnWire) : State :=
  match p.side with
  | .edge k => s.edgeLinkDown k
  | .trunk t => (s.windowAbort t w).trunkLinkDown t

/-- R3, R8, R15: a report of DOWN at a port whose link is UP. -/
def State.linkGoesDown (s : State) (p : Port) (receiving : Bool) : State :=
  let lost := (s.link p).control
  let s1 := if receiving then s.countPort p .aborted 1 else s
  let s2 := (s1.abort p).modLink p fun l => { l with up := false, control := [] }
  let s3 := (s2.countPort p .controlLost lost.length).raise (.linkLayer p) [raiseOf .linkDown p.val lost.length]
  (s3.unitsLinkDown p (s.link p).wire).mgmtLinkDown p lost

/-- LINK_DOWN (R3). -/
def execLinkDown (p : Port) (receiving : Bool) (s : State) : Result :=
  live s (if (s.link p).up then s.linkGoesDown p receiving else s)

/-! ### Receptions -/

/-- RECEPTION_ABORTED (R1, R9 test 1); while the link is DOWN nothing is received (R3). -/
def execReceptionAborted (p : Port) (s : State) : Result :=
  live s (if (s.link p).up then s.countPort p .aborted 1 else s)

/-- R10. -/
def State.dispatchMgmt (s : State) (p : Port) (f : Frame) : State :=
  if f.dst = s.ownAddress ∨
      (f.dst = Config.broadcast ∧ RequestKind.ofCode (byteAt f.payload 2) = some .identify) then
    s.requestArrives { payload := f.payload, src := f.src, port := p }
  else s.countPort p .notLocal 1

/-- R11. -/
def State.dispatchAck (s : State) (p : Port) (f : Frame) : State :=
  match p.side with
  | .edge k =>
    if !s.edge.enabled.get k then s.countPort p .portDisabled 1
    else if f.dst ≠ s.ownAddress then s.countPort p .notLocal 1
    else s.countPort p .wrongPort 1
  | .trunk t =>
    if (s.trunk t).state = .disabled then s.countPort p .portDisabled 1
    else if f.dst ≠ s.ownAddress then s.countPort p .notLocal 1
    else s.takeAck t f.payload

/-- R12. -/
def State.dispatchData (s : State) (p : Port) (f : Frame) : State :=
  match p.side with
  | .edge k =>
    if !s.edge.enabled.get k then s.countPort p .portDisabled 1 else (s.learn k f.src).classify k f
  | .trunk t =>
    if !(s.trunk t).enabled then s.countPort p .portDisabled 1
    else if f.dst = s.ownAddress then s.countPort p .notDeliverable 1
    else s.returnPath t f

/-- R10 to R12: a valid frame goes by its kind. -/
def State.dispatch (s : State) (p : Port) (f : Frame) : State :=
  if f.kind = kindMgmt then s.dispatchMgmt p f
  else if f.kind = kindAck then s.dispatchAck p f
  else s.dispatchData p f

/-- R9: the tests, and dispatch of a frame that passes them. -/
def State.arrive (s : State) (p : Port) (bytes : List Byte) : State :=
  match validate bytes with
  | .error c => s.countPort p c 1
  | .ok f => (s.countPort p .receiveGood 1).dispatch p f

/-- FRAME_ARRIVAL (R1, R9); while the link is DOWN the physical layer delivers no frames (R3). -/
def execFrameArrival (p : Port) (bytes : List Byte) (s : State) : Result :=
  live s (if (s.link p).up then s.arrive p bytes else s)

/-! ### TRANSMISSION_END -/

/-- R14, R153: the head leaves the control list; the end of the noted RESTART response makes the restart due. -/
def State.controlEnds (s : State) (p : Port) : State :=
  let s1 := s.modLink p fun l => { l with control := l.control.tail }
  let s2 :=
    match p.side with
    | .edge _ => s1
    | .trunk t => s1.countTrunk t .controlSent 1
  if (s.link p).control.head?.any ControlFrame.restart && s.mgmt.mode == .restartWait then
    s2.modMgmt fun m => { m with mode := .restartDue }
  else s2

/-- R14: both producers offer for the freed place, in either order. -/
def State.offerBoth (s : State) (p : Port) (responseFirst : Bool) : State :=
  if responseFirst then (s.reoffer p).opportunity p else (s.opportunity p).reoffer p

/-- R39: the return frame that was sent leaves its list and its cells are freed. -/
def State.returnEnds (s : State) (k : EdgeId) : State :=
  s.dropReturns k (s.edge.returns.get k).tail (s.edge.returns.get k).head?.toList

/-- R113, R121: the window acts on the end of a bundle's transmission. -/
def State.bundleEnds (s : State) (t : TrunkId) (seq : Byte) : State :=
  match (s.trunk t).bundles.find? fun b => b.seq == seq with
  | none => s
  | some b =>
    if b.retiring then ((s.retire t b).1.raise .queueUnit (s.retire t b).2).windowEmptied t
    else
      s.modTrunk t fun k =>
        k.updBundle seq fun x => { x with retryDeadline := some (deadlineAfter s.now k.retryInterval) }

/-- R8: the end is reported to the owner of the frame. -/
def State.ownerEnds (s : State) (p : Port) (o : WireOwner) (responseFirst : Bool) : State :=
  match o with
  | .control => (s.controlEnds p).offerBoth p responseFirst
  | .returnFrame =>
    match p.side with
    | .edge k => s.returnEnds k
    | .trunk _ => s
  | .bundle seq =>
    match p.side with
    | .edge _ => s
    | .trunk t => s.bundleEnds t seq

/-- R8: frames sent is counted, the transmitter goes idle, the owner acts, and the selector is asked. -/
def State.transmissionEnds (s : State) (p : Port) (w : OnWire) (responseFirst : Bool) : State :=
  (((s.countPort p .framesSent 1).modLink p fun l => { l with wire := none }).ownerEnds p w.owner responseFirst).select p

/-- TRANSMISSION_END (R8). -/
def execTransmissionEnd (p : Port) (responseFirst : Bool) (s : State) : Result :=
  live s
    (match (s.link p).wire with
    | none => s
    | some w => s.transmissionEnds p w responseFirst)

end Sys2Proof.Machine
end

