-- ==== Sys2Proof/Machine/Deadlines.lean ====
section
/-! DEFINITION. The deadline expiries (R167): each acts when its deadline is there and the timestamp has reached it, and
otherwise does not happen (log 2, log 3); and the tick of the timestamp (R166). -/

namespace Sys2Proof.Machine

/-- R27, R31: the second count advances, the next deadline is set, and the aging scan runs with the new count. -/
def Edge.secondPasses (e : Edge) : Edge :=
  let e1 := { e with seconds := e.seconds + 1, secondDeadline := e.secondDeadline + BitVec.ofNat 32 Config.second }
  e1.removeEntries e1.aged

/-- DIRECTORY_SECOND_EXPIRY (R27). -/
def execDirectorySecondExpiry (s : State) : Result :=
  live s (if reached s.now s.edge.secondDeadline then s.modEdge Edge.secondPasses else s)

/-- The age deadline of the queue's open batch. -/
def Queue.ageDeadline (u : Queue) : Option Word := u.openBatch.bind Batch.ageDeadline

/-- AGE_DEADLINE_EXPIRY (R81). -/
def execAgeDeadlineExpiry (q : QueueId) (s : State) : Result :=
  live s (if expired s.now (s.queue q).ageDeadline then (s.closeOpen q .age).offerClosed q (s.queue q).ready.length else s)

/-- DRAIN_DEADLINE_EXPIRY (R87). -/
def execDrainDeadlineExpiry (q : QueueId) (s : State) : Result :=
  live s (if (s.queue q).state = .halting ∧ expired s.now (s.queue q).drain then s.drainExpires q else s)

/-- HOLD_DEADLINE_EXPIRY (R102). An edge port has no hold deadline. -/
def execHoldDeadlineExpiry (p : Port) (s : State) : Result :=
  live s
    (match p.side with
    | .edge _ => s
    | .trunk t => if (s.trunk t).state = .holding ∧ expired s.now (s.trunk t).hold then s.holdExpires t else s)

/-- R127: the bundle is at the retry limit. -/
def Trunk.atLimit (k : Trunk) (b : Bundle) : Bool := k.retryLimit != 15 && k.retryLimit ≤ b.retry

/-- R130: the detail of BUNDLE_ABANDONED. -/
def abandonedEvent (t : TrunkId) (b : Bundle) : Raise :=
  raiseOf .bundleAbandoned t.port.val (b.batch.queue.val * 256 + b.seq.toNat)

/-- R127, R130: the retry deadline of bundle `b` expires. -/
def State.retryExpires (s : State) (t : TrunkId) (b : Bundle) : State :=
  if (s.trunk t).atLimit b then
    (((s.abandon t b).1.raise (.deliveryWindow t) (abandonedEvent t b :: (s.abandon t b).2)).windowEmptied t).trunkSelect
      t
  else
    (s.modTrunk t fun k => k.updBundle b.seq fun x => { x with due := some .counted, retryDeadline := none }).trunkSelect
      t

/-- R118, R127: the waiting bundle with this sequence whose retry deadline has been reached. -/
def State.retryDue (s : State) (t : TrunkId) (seq : Byte) : Option Bundle :=
  match (s.trunk t).bundles.find? fun b => b.seq == seq with
  | none => none
  | some b => if !b.retiring && expired s.now b.retryDeadline then some b else none

/-- RETRY_DEADLINE_EXPIRY (R127). An edge port has no window. -/
def execRetryDeadlineExpiry (p : Port) (seq : Byte) (s : State) : Result :=
  live s
    (match p.side with
    | .edge _ => s
    | .trunk t =>
      match s.retryDue t seq with
      | none => s
      | some b => s.retryExpires t b)

/-- R148: the lease runs out. -/
def State.leaseExpires (s : State) (o : Owner) : State :=
  (s.modMgmt fun m => { m with owner := none }).raise .managementUnit [raiseOf .ownerLost o.port.val o.addr.toNat]

/-- LEASE_DEADLINE_EXPIRY (R148). -/
def execLeaseDeadlineExpiry (s : State) : Result :=
  live s
    (match s.mgmt.owner with
    | none => s
    | some o => if reached s.now o.lease then s.leaseExpires o else s)

/-- RESPONSE_WAIT_EXPIRY (R143, R152). -/
def execResponseWaitExpiry (s : State) : Result :=
  live s
    (match s.mgmt.mode with
    | .responseWait c _ d => if reached s.now d then s.loseResponse c else s
    | .ready => s
    | .restartWait => s
    | .restartDue => s)

/-- R178: the pending kinds become owed. -/
def Slot.repeats (x : Slot) : Slot :=
  { x with owed := x.owed ||| x.pending, pending := 0, recurred := 0, repeatDeadline := none }

/-- REPEAT_DEADLINE_EXPIRY (R178). -/
def execRepeatDeadlineExpiry (i : SlotId) (s : State) : Result :=
  live s
    (if (s.slot i).inUse ∧ expired s.now (s.slot i).repeatDeadline then
      (s.modSlot i Slot.repeats).opportunity (s.slot i).port
    else s)

/-- TIMESTAMP_TICK (R166). -/
def execTimestampTick (s : State) : Result := live s { s with now := s.now + 1 }

end Sys2Proof.Machine
end

