-- ==== Sys2Proof/Machine/Resets.lean ====
section
/-! DEFINITION. HARD_RESET and RESET_N_LOW (R155, R156) and the restart (R40, R57, R72, R94, R116, R135, R154, R165,
R181). -/

namespace Sys2Proof.Machine

/-- HARD_RESET (R155, R156): every block takes its hard reset values; the commands that wait go on waiting, and the free
orders of restarts to come stay as they are (log 6). -/
def execHardReset (straps : BitVec 6) (s : State) : Result :=
  .next ((State.afterHardReset straps s.pending).modEvents fun e => { e with orders := s.events.orders })

/-- RESET_N_LOW (R155): from now on the part takes no event, and no transmitter sends (log 13). -/
def execResetNLow (s : State) : Result :=
  .next { s with resetLow := true, links := s.links.map fun l => { l with wire := none } }

/-! ### The restart: what each block keeps and clears -/

/-- R8: a transmission whose owner meets `o` is aborted. A restart counts no abort (R165). -/
def Link.aborted (l : Link) (o : WireOwner → Bool) : Link := { l with wire := l.wire.filter fun w => !o w.owner }

/-- The frame on the wire is a bundle. -/
def WireOwner.isBundle : WireOwner → Bool
  | .bundle _ => true
  | .control => false
  | .returnFrame => false

/-- R2, R7, R8, R13, R15: link state kept; a control frame on the wire aborted, the control list and the count
cleared. A bundle or a return frame on the wire is aborted by the block that releases it (R72). -/
def Link.restarted (l : Link) : Link := { (l.aborted fun o => o == .control) with txCount := 0, control := [] }

/-- R40. -/
def Edge.restarted (e : Edge) : Edge :=
  { (e.removeEntries fun d => d.origin == .learned) with fullRefusal := false, returns := .replicate 8 [] }

/-- R54, R57: shadow entry `i` after every remaining sync step. -/
def Steer.syncedEntry (x : Steer) (i : EntryId) : SteerEntry :=
  if x.syncing && x.nextIndex ≤ i.val && !x.marks.get i then x.activeBank.get i else x.shadowBank.get i

/-- R46, R47, R57. -/
def Steer.restarted (x : Steer) : Steer :=
  { (x.setShadow (.ofFn x.syncedEntry)) with
    hitsA := .replicate 256 0
    hitsB := .replicate 256 0
    marks := .replicate 256 false
    syncing := false
    nextIndex := if x.syncing then 256 else x.nextIndex }

/-- R72: at its own restart the pool sets the monitor state, without an event; it releases nothing by itself. -/
def Pool.restarted (p : Pool) : Pool := { p with low := decide (p.freeCells < p.lowWater) }

/-- R76, R94. -/
def Queue.restarted (u : Queue) : Queue :=
  { u with
    state := if u.state = .active then .active else .off
    openBatch := none
    ready := []
    outstanding := 0
    drain := none }

/-- R116: the trunk state from the admin state and the link state. -/
def restartedMode (enabled up : Bool) : TrunkMode :=
  if enabled then (if up then .running else .waiting) else .disabled

/-- R110, R116, R135. -/
def Trunk.restarted (k : Trunk) (up : Bool) : Trunk :=
  { k with
    state := restartedMode k.enabled up
    stopRequested := false
    hold := none
    rrPointer := 15
    levelPointers := .replicate 4 15
    nextSeq := 0
    bundles := [] }

/-- R154. -/
def Mgmt.restarted (m : Mgmt) : Mgmt :=
  { m with requests := [], overflow := false, mode := .ready, owner := none, lastCause := .restart }

/-- R181. -/
def Slot.restarted (x : Slot) : Slot := { x with owed := 0, pending := 0, recurred := 0, repeatDeadline := none }

/-- R181: raises not yet taken stay waiting; those taken after this are kept. -/
def EventUnit.restarted (e : EventUnit) : EventUnit :=
  { e with slots := e.slots.map Slot.restarted, records := [], lost := 0 }

/-! ### The restart: each block's own event (R154) -/

/-- R62, R69: one release of every chain and descriptor of these batches, each charged to its own queue, and the one
comparison after it; a release of no cell is not compared (log 28). -/
def State.releaseBatches (s : State) (gone : List Batch) : State :=
  let s1 := s.modPool fun p => gone.foldl (fun acc b => acc.give b.queue.acct b.cells 1) p
  if (gone.map Batch.cells).sum = 0 then s1 else s1.monitor

/-- R153: a RESTART response placed in this control list and discarded with it makes that restart due (log 6). -/
def State.linkLayerRestarts (s : State) (p : Port) : State :=
  let s1 := s.modLink p Link.restarted
  if s.mgmt.mode = .restartWait ∧ (s.link p).control.any ControlFrame.restart then
    s1.modMgmt fun m => { m with mode := .restartDue }
  else s1

/-- R40, R62, R72: every return list is emptied, its frame on the wire aborted, and every return frame released. -/
def State.edgeUnitRestarts (s : State) : State :=
  ({ s with
    edge := s.edge.restarted
    links := s.links.map fun l => l.aborted fun o => o == .returnFrame } : State).release retAcct
      (s.edge.returns.list.map fun l => (l.map returnCells).sum).sum 0

/-- R94: what the queues hold, and then what the windows hold of them. -/
def State.storedBatches (s : State) : List Batch :=
  s.queues.list.flatMap Queue.held ++ s.trunks.list.flatMap fun k => k.bundles.map Bundle.batch

/-- R94, R114: the queue unit releases every batch and every bundle, aborts the bundles on the wire, and leaves every
window empty, on which each trunk unit acts (R99). -/
def State.queueUnitRestarts (s : State) : State :=
  (List.finRange 4).foldl State.windowEmptied
    (({ s with
      queues := s.queues.map Queue.restarted
      trunks := s.trunks.map fun k => { k with bundles := [] }
      links := s.links.map fun l => l.aborted WireOwner.isBundle } : State).releaseBatches s.storedBatches)

/-- R86, R94: the HALTING queues that a window's restart leaves drained go OFF; during a restart no QUEUE_OFF event is
raised (log 6). -/
def State.drainedOff (s : State) : State :=
  { s with queues := .ofFn fun q => if s.drained q then (s.queue q).turnedOff else s.queue q }

/-- R135: the outstanding counts fall by the bundles of the window of trunk port `t`. -/
def State.fewerOutstanding (s : State) (t : TrunkId) : Tab Queue 16 :=
  .ofFn fun q => { s.queue q with outstanding := (s.queue q).outstanding - ((s.trunk t).bundlesOf q).length }

/-- R116, R135: the window of trunk port `t` is emptied and released, then the trunk state is set. -/
def State.trunkUnitRestarts (s : State) (t : TrunkId) : State :=
  (({ s with
    queues := s.fewerOutstanding t
    trunks := s.trunks.upd t fun k => k.restarted (s.link t.port).up
    links := s.links.upd t.port fun l => l.aborted WireOwner.isBundle } : State).releaseBatches
      ((s.trunk t).bundles.map Bundle.batch)).drainedOff

/-- R154: block `b` takes the restart, as its own chapter states. No step of it claims a counter increase (R165). -/
def State.blockRestarts (s : State) (b : RestartBlock) : State :=
  match b with
  | .linkLayer p => s.linkLayerRestarts p
  | .edgeUnit => s.edgeUnitRestarts
  | .steeringUnit => s.modSteer Steer.restarted
  | .cellPool => s.modPool Pool.restarted
  | .queueUnit => s.queueUnitRestarts
  | .trunkUnit t => s.trunkUnitRestarts t
  | .managementUnit => s.modMgmt Mgmt.restarted
  | .eventUnit => s.modEvents EventUnit.restarted
  | .counterBlock => s.modCounters fun _ => Counters.reset

/-! ### The restart of the part -/

/-- R154: every block that takes a restart. -/
def RestartBlock.all : List RestartBlock :=
  (List.finRange 12).map .linkLayer ++ [.edgeUnit, .steeringUnit, .cellPool, .queueUnit] ++
    (List.finRange 4).map .trunkUnit ++ [.managementUnit, .eventUnit, .counterBlock]

/-- R152, R153: a restart that is due begins, unless one is still in progress: now every block has to take it. -/
def State.restartStarts (s : State) : State :=
  if s.mgmt.mode = .restartDue ∧ s.events.awaiting = [] then
    s.modEvents fun e => { e with awaiting := RestartBlock.all }
  else s

/-- R154: a block takes the restart in progress once. -/
def State.restartBlock (s : State) (b : RestartBlock) : State :=
  if b ∈ s.events.awaiting then
    (s.modEvents fun e => { e with awaiting := e.awaiting.filter fun x => x != b }).blockRestarts b
  else s

/-- R8: the selector of a port whose transmission the step has aborted is asked; `s` is the state before the step. -/
def State.selectAborted (s : State) (t : State) (p : Port) : State :=
  if (s.link p).wire.isSome && (t.link p).wire.isNone then t.select p else t

/-- R154: the blocks that take the restart in this RESTART_BEGIN, in this order (log 6). -/
def EventUnit.nextOrder (e : EventUnit) : List RestartBlock := e.orders.headD RestartBlock.all

/-- R154, R181: the blocks of the next order take the restart in turn, the selectors of the transmissions aborted by it
are asked, and once every block has taken the restart the event unit raises RESTARTED. Without a restart that is due or in
progress nothing happens (log 2). -/
def State.restarts (s : State) : State :=
  let s1 := s.restartStarts
  if s1.events.awaiting = [] then s
  else
    let s2 := s1.modEvents fun e => { e with orders := e.orders.tail }
    let s3 := s.events.nextOrder.foldl State.restartBlock s2
    let s4 := (List.finRange 12).foldl (State.selectAborted s) s3
    if s4.events.awaiting = [] then s4.takeRaise (raiseOf .restarted 0 0) else s4

/-- RESTART_BEGIN (R154). -/
def execRestartBegin (s : State) : Result := live s s.restarts

end Sys2Proof.Machine
end

