-- ==== Sys2Proof/Machine/Events.lean ====
section
/-! DEFINITION. EVENT_RAISE (R169) and the requests of the event unit: SUBSCRIBE, UNSUBSCRIBE, EVENT_ACK, READ_EVENTS
(R172 to R175, R179). -/

namespace Sys2Proof.Machine

/-- EVENT_RAISE (R169). -/
def execEventRaise (b : Block) (s : State) : Result := live s (s.takeArrival b)

/-- R174, step 5. -/
def repeatIntervalOk (ms : Nat) : Bool := ms == 0 || (100 ≤ ms && ms ≤ 60000)

/-- R174: the slot as a SUBSCRIBE leaves it. -/
def Slot.subscribed (addr : Half) (port : Port) (kinds : Half) (interval : Nat) : Slot :=
  { inUse := true, addr := addr, port := port, kindSet := kinds, repeatInterval := interval, noteSeq := 0, owed := 0,
    pending := 0, recurred := 0, repeatDeadline := none }

/-- R174: operands slot 1, address 2, port 1, kind set 2, repeat interval 2. -/
def subscribeBody (s : State) (r : Request) : State × Reply :=
  match index? 8 (r.opNat 0) with
  | none => (s, .refuse .badIndex)
  | some i =>
    match index? 12 (r.opNat 3) with
    | none => (s, .refuse .badValue)
    | some p =>
      if r.op16 1 = Config.noNode ∨ r.op16 1 = Config.broadcast then (s, .refuse .badValue)
      else if (r.op16 4).getLsbD 0 then (s, .refuse .badValue)
      else if !repeatIntervalOk (r.op16 6).toNat then (s, .refuse .badValue)
      else (s.modSlot i fun _ => .subscribed (r.op16 1) p (r.op16 4) (r.op16 6).toNat, .done [])

/-- SUBSCRIBE (R174). -/
def execSubscribe (s : State) : Result := live s (s.takeRequest .subscribe subscribeBody)

/-- R175; the other fields stay, since nothing reads them (log 24). -/
def Slot.unsubscribed (x : Slot) : Slot :=
  { x with inUse := false, owed := 0, pending := 0, recurred := 0, repeatDeadline := none }

/-- R175: operand slot 1. -/
def unsubscribeBody (s : State) (r : Request) : State × Reply :=
  match index? 8 (r.opNat 0) with
  | none => (s, .refuse .badIndex)
  | some i => (if (s.slot i).inUse then s.modSlot i Slot.unsubscribed else s, .done [])

/-- UNSUBSCRIBE (R175). -/
def execUnsubscribe (s : State) : Result := live s (s.takeRequest .unsubscribe unsubscribeBody)

/-- R179: the listed kinds that are pending are acknowledged; those that had recurred become owed. -/
def Slot.acked (x : Slot) (kinds : Half) : Slot :=
  let listed := kinds &&& x.pending
  { x with
    pending := x.pending &&& ~~~listed
    owed := x.owed ||| (listed &&& x.recurred)
    recurred := x.recurred &&& ~~~listed
    repeatDeadline := if x.pending &&& ~~~listed = 0 then none else x.repeatDeadline }

/-- R179: operands slot 1, kind set 2. -/
def eventAckBody (s : State) (r : Request) : State × Reply :=
  match index? 8 (r.opNat 0) with
  | none => (s, .refuse .badIndex)
  | some i =>
    if !(s.slot i).inUse || r.src != (s.slot i).addr then (s, .refuse .notOwner)
    else
      let s1 := s.modSlot i fun x => x.acked (r.op16 1)
      (if (s1.slot i).owed = 0 then s1 else s1.opportunity (s.slot i).port, .done [])

/-- EVENT_ACK (R179). -/
def execEventAck (s : State) : Result := live s (s.takeRequest .eventAck eventAckBody)

/-- R172: the data of a READ_EVENTS of `n` records. -/
def EventUnit.readBytes (e : EventUnit) (n : Nat) : List Byte :=
  be32 e.lost ++ (e.records.take n).flatMap EventRecord.bytes

/-- R172: a maximum count from 1 to 16. -/
def maxCountOk (n : Nat) : Bool := 1 ≤ n && n ≤ 16

/-- R172 without take. -/
def readEventsBody (s : State) (r : Request) : State × Reply :=
  if maxCountOk (r.opNat 0) then (s, .done (s.events.readBytes (r.opNat 0))) else (s, .refuse .badValue)

/-- READ_EVENTS (R172). -/
def execReadEvents (s : State) : Result := live s (s.takeRequest .readEvents readEventsBody)

/-- R172 with take: the records returned leave the queue, and flag bit 1 clears the records-lost count. -/
def readEventsTakeBody (s : State) (r : Request) : State × Reply :=
  if maxCountOk (r.opNat 0) then
    (s.modEvents fun e =>
      { e with records := e.records.drop (r.opNat 0), lost := if r.flag1 then 0 else e.lost },
      .done (s.events.readBytes (r.opNat 0)))
  else (s, .refuse .badValue)

/-- READ_EVENTS_TAKE (R172). -/
def execReadEventsTake (s : State) : Result := live s (s.takeRequest .readEventsTake readEventsTakeBody)

end Sys2Proof.Machine
end

