-- ==== Sys2Proof/Machine/Steering.lean ====
section
/-! DEFINITION. SYNC_STEP (R54, R55) and the requests of the steering unit (R48 to R53). -/

namespace Sys2Proof.Machine

/-- R54: the sync step for index `i`. -/
def Steer.syncStep (x : Steer) (i : EntryId) : Steer :=
  let y := if x.marks.get i then x else x.setShadow (x.shadowBank.set i (x.activeBank.get i))
  { y with nextIndex := i.val + 1 }

/-- R54, R55: one sync step; after the step for index 255 the sync is over and TABLE_SYNCED is raised. -/
def State.syncs (s : State) (i : EntryId) : State :=
  let s1 := s.modSteer fun x => x.syncStep i
  if i.val = 255 then
    (s1.modSteer fun x => { x with syncing := false }).raise .steeringUnit
      [raiseOf .tableSynced s.steer.active.code s.steer.generation.toNat]
  else s1

/-- SYNC_STEP (R54). -/
def execSyncStep (s : State) : Result :=
  live s
    (if s.steer.syncing then
      match index? 256 s.steer.nextIndex with
      | some i => s.syncs i
      | none => s
    else s)

/-- R149: the action code; other values are none. -/
def actionOf (c : Nat) : Option SteerAction :=
  match c with
  | 0 => some .discard
  | 1 => some .toQueue
  | _ => none

/-- R48, R149: operands index 2, valid 1, port set 1, source value 2, source mask 2, tag value 1, tag mask 1, action 1,
queue 1. -/
def tableWriteBody (s : State) (r : Request) : State × Reply :=
  match index? 256 (r.op16 0).toNat with
  | none => (s, .refuse .badIndex)
  | some i =>
    match actionOf (r.opNat 10) with
    | none => (s, .refuse .badValue)
    | some a =>
      match index? 16 (r.opNat 11) with
      | none => (s, .refuse .badValue)
      | some q =>
        let e : SteerEntry :=
          { valid := r.op 2 != 0, portSet := r.op 3, srcValue := r.op16 4, srcMask := r.op16 6, tagValue := r.op 8,
            tagMask := r.op 9, action := a, queue := q }
        (s.modSteer fun x => { (x.setShadow (x.shadowBank.set i e)) with marks := x.marks.set i true }, .done [])

/-- TABLE_WRITE (R48). -/
def execTableWrite (s : State) : Result := live s (s.takeRequest .tableWrite tableWriteBody)

/-- R49. -/
def tableClearBody (s : State) (_ : Request) : State × Reply :=
  (s.modSteer fun x => { (x.setShadow (.replicate 256 .blank)) with marks := .replicate 256 true }, .done [])

/-- TABLE_CLEAR (R49). -/
def execTableClear (s : State) : Result := live s (s.takeRequest .tableClear tableClearBody)

/-- R50: the sync step for this shadow index has yet to replace its entry. -/
def Steer.syncPending (x : Steer) (i : EntryId) : Bool := x.syncing && x.nextIndex ≤ i.val && !x.marks.get i

/-- R50, R149: the flags byte of a shadow read. -/
def Steer.readFlags (x : Steer) (i : EntryId) : Nat :=
  if x.marks.get i then 1 else if x.syncPending i then 2 else 0

/-- R50: bank identity, generation, entry, flags. -/
def Steer.readBytes (x : Steer) (shadow : Bool) (i : EntryId) : List Byte :=
  if shadow then
    [byteOf x.active.other.code] ++ be16 x.generation ++ (x.shadowBank.get i).bytes ++ [byteOf (x.readFlags i)]
  else [byteOf x.active.code] ++ be16 x.generation ++ (x.activeBank.get i).bytes ++ [0]

/-- R50: operands bank selector 1, index 2. -/
def tableReadBody (s : State) (r : Request) : State × Reply :=
  if 1 < r.opNat 0 then (s, .refuse .badValue)
  else
    match index? 256 (r.op16 1).toNat with
    | none => (s, .refuse .badIndex)
    | some i => (s, .done (s.steer.readBytes (r.opNat 0 == 1) i))

/-- TABLE_READ (R50). -/
def execTableRead (s : State) : Result := live s (s.takeRequest .tableRead tableReadBody)

/-- R51: operands first index 2, count 1. -/
def readHitsBody (s : State) (r : Request) : State × Reply :=
  let first := (r.op16 0).toNat
  let n := r.opNat 2
  if 255 < first then (s, .refuse .badIndex)
  else if n = 0 ∨ 56 < n then (s, .refuse .badValue)
  else if 256 < first + n then (s, .refuse .badIndex)
  else
    (s, .done (be16 s.steer.generation ++ (((s.steer.hits s.steer.active).list.drop first).take n).flatMap be32))

/-- READ_HITS (R51). -/
def execReadHits (s : State) : Result := live s (s.takeRequest .readHits readHitsBody)

/-- R52: the exchange of the banks. -/
def Steer.committed (x : Steer) : Steer :=
  { (x.setHits x.active.other (.replicate 256 0)) with
    active := x.active.other
    generation := x.generation + 1
    marks := .replicate 256 false
    syncing := true
    nextIndex := 0 }

/-- R52, R53. -/
def commitBody (s : State) (_ : Request) : State × Reply :=
  if s.steer.syncing then (s, { status := .busy, data := be16n s.steer.nextIndex })
  else
    (s.modSteer Steer.committed,
      .done (be16 s.steer.committed.generation ++ [byteOf s.steer.committed.active.code]))

/-- COMMIT (R52, R53). -/
def execCommit (s : State) : Result := live s (s.takeRequest .commit commitBody)

end Sys2Proof.Machine
end

