-- ==== Sys2Proof/Machine/QueueRequests.lean ====
section
/-! DEFINITION. The requests of the queue unit (R83 to R90). Each carries a queue number, 1 byte. -/

namespace Sys2Proof.Machine

/-- R83: a queue number above 15 is refused BAD_INDEX. -/
def onQueue (s : State) (r : Request) (f : QueueId → State × Reply) : State × Reply :=
  match index? 16 (r.opNat 0) with
  | none => (s, .refuse .badIndex)
  | some q => f q

/-- R83. -/
def queueStartBody (s : State) (r : Request) : State × Reply :=
  onQueue s r fun q =>
    match (s.queue q).state with
    | .off => (s.modQueue q fun u => { u with state := .active }, .done [])
    | .active => (s, .done [])
    | .halting => (s, .refuse .wrongState)

/-- QUEUE_START (R83). -/
def execQueueStart (s : State) : Result := live s (s.takeRequest .queueStart queueStartBody)

/-- R85: the four steps of a halt, then the decision that the closing of a batch gives (R104). -/
def State.halt (s : State) (q : QueueId) : State :=
  let s1 := (s.closeOpen q .halt).modQueue q fun u =>
    { u with state := .halting, drain := some (deadlineAfter s.now (1000 * u.drainLimit)) }
  ((s1.drainTest q).1.raise .queueUnit (s1.drainTest q).2).offerClosed q (s.queue q).ready.length

/-- R85. -/
def queueHaltBody (s : State) (r : Request) : State × Reply :=
  onQueue s r fun q =>
    match (s.queue q).state with
    | .off => (s, .refuse .wrongState)
    | .active => (s.halt q, .done [])
    | .halting => (s, .done [])

/-- QUEUE_HALT (R85). -/
def execQueueHalt (s : State) : Result := live s (s.takeRequest .queueHalt queueHaltBody)

/-- The member count of the open batch, 0 when there is none. -/
def Queue.openCount (u : Queue) : Nat := (u.openBatch.map fun b => b.members.length).getD 0

/-- The byte size of the open batch, 0 when there is none. -/
def Queue.openSize (u : Queue) : Nat := (u.openBatch.map Batch.byteSize).getD 0

/-- R84. -/
def queueFlushBody (s : State) (r : Request) : State × Reply :=
  onQueue s r fun q =>
    match (s.queue q).state with
    | .off => (s, .refuse .wrongState)
    | .active => ((s.closeOpen q .flush).offerClosed q (s.queue q).ready.length, .done [byteOf (s.queue q).openCount])
    | .halting => (s, .done [0])

/-- QUEUE_FLUSH (R84). -/
def execQueueFlush (s : State) : Result := live s (s.takeRequest .queueFlush queueFlushBody)

/-- R89. -/
def queuePurgeBody (s : State) (r : Request) : State × Reply :=
  onQueue s r fun q =>
    match (s.queue q).state with
    | .off => (s, .done (be16n 0))
    | .active => (s.purge q, .done (be16n ((s.queue q).held.map fun b => b.members.length).sum))
    | .halting => (s.purge q, .done (be16n ((s.queue q).held.map fun b => b.members.length).sum))

/-- QUEUE_PURGE (R89). -/
def execQueuePurge (s : State) : Result := live s (s.takeRequest .queuePurge queuePurgeBody)

/-- R90: state, open byte size, open member count, ready count, outstanding count, in-use cells. -/
def State.queueStatusBytes (s : State) (q : QueueId) : List Byte :=
  [byteOf (s.queue q).state.code] ++ be16n (s.queue q).openSize ++ [byteOf (s.queue q).openCount] ++
    be16n (s.queue q).ready.length ++ be16n (s.queue q).outstanding ++ be16n (s.account q.acct).inUse

/-- R90. -/
def queueStatusBody (s : State) (r : Request) : State × Reply :=
  onQueue s r fun q => (s, .done (s.queueStatusBytes q))

/-- QUEUE_STATUS (R90). -/
def execQueueStatus (s : State) : Result := live s (s.takeRequest .queueStatus queueStatusBody)

end Sys2Proof.Machine
end

