-- ==== Sys2Proof/Machine/DirectoryRequests.lean ====
section
/-! DEFINITION. The directory requests (R32 to R35). -/

namespace Sys2Proof.Machine

/-- R32: a pinned entry made now. -/
def Edge.pinnedEntry (e : Edge) (addr : Half) (k : EdgeId) : DirEntry :=
  { addr := addr, port := k, origin := .pinned, lastSeen := e.seconds }

/-- R32: operands node address 2, port 1. -/
def dirPinBody (s : State) (r : Request) : State × Reply :=
  if r.op16 0 = Config.noNode ∨ r.op16 0 = Config.broadcast then (s, .refuse .badValue)
  else
    match index? 8 (r.opNat 2) with
    | none => (s, .refuse .badValue)
    | some k =>
      match s.edge.lookup (r.op16 0) with
      | some (i, _) =>
        (s.modEdge fun e => e.putEntry i (some (e.pinnedEntry (r.op16 0) k)), .done [byteOf i.val])
      | none =>
        match s.edge.freePosition with
        | some i => (s.modEdge fun e => e.putEntry i (some (e.pinnedEntry (r.op16 0) k)), .done [byteOf i.val])
        | none => (s, .refuse .noResource)

/-- DIR_PIN (R32). -/
def execDirPin (s : State) : Result := live s (s.takeRequest .dirPin dirPinBody)

/-- R33: operand node address 2; the outcome is 0 kept, 1 removed. -/
def dirUnpinBody (s : State) (r : Request) : State × Reply :=
  match s.edge.lookup (r.op16 0) with
  | none => (s, .refuse .badIndex)
  | some (i, d) =>
    match d.origin with
    | .learned => (s, .done [0])
    | .pinned =>
      if (s.link d.port.port).up then
        (s.modEdge fun e => e.putEntry i (some { d with origin := .learned, lastSeen := e.seconds }), .done [0])
      else (s.modEdge fun e => e.putEntry i none, .done [1])

/-- DIR_UNPIN (R33). -/
def execDirUnpin (s : State) : Result := live s (s.takeRequest .dirUnpin dirUnpinBody)

/-- R34. -/
def DirEntry.isLearned (d : DirEntry) : Bool := d.origin == .learned

/-- R34: the data is the number of entries removed. -/
def dirFlushBody (s : State) (_ : Request) : State × Reply :=
  (s.modEdge fun e => e.removeEntries DirEntry.isLearned, .done [byteOf (s.edge.countEntries DirEntry.isLearned)])

/-- DIR_FLUSH (R34). -/
def execDirFlush (s : State) : Result := live s (s.takeRequest .dirFlush dirFlushBody)

/-- R35, R149: occupied, node address, port, origin, age. -/
def Edge.readBytes (e : Edge) (i : DirPos) : List Byte :=
  match e.directory.get i with
  | none => List.replicate 9 0
  | some d =>
    [1] ++ be16 d.addr ++ [byteOf d.port.val, byteOf d.origin.code] ++ be32 (e.seconds - d.lastSeen)

/-- R35: operand position 1. -/
def dirReadBody (s : State) (r : Request) : State × Reply :=
  match index? 64 (r.opNat 0) with
  | none => (s, .refuse .badIndex)
  | some i => (s, .done (s.edge.readBytes i))

/-- DIR_READ (R35). -/
def execDirRead (s : State) : Result := live s (s.takeRequest .dirRead dirReadBody)

end Sys2Proof.Machine
end

