-- ==== Sys2Proof/Machine/Items.lean ====
section
/-! DEFINITION. Items and counters: READ_ITEM (R158), WRITE_ITEM and the writes that have a behaviour of their own (R159,
R24, R64, R65, R70, R97, R98), READ_COUNTERS (R163, R164). -/

namespace Sys2Proof.Machine

/-- R158, R160: the value of an item as it stands. -/
def State.readItem (s : State) (i : Item) : Nat :=
  match i with
  | .ownAddress => s.ownAddress.toNat
  | .lastResetCause => s.mgmt.lastCause.code
  | .defaultAction => s.steer.defaultAction.code
  | .defaultQueue => s.steer.defaultQueue.val
  | .leaseTime => s.mgmt.leaseTime
  | .directoryAge => s.edge.directoryAge
  | .poolLowWater => s.pool.lowWater
  | .retReserve => (s.account retAcct).reserve
  | .retCap => (s.account retAcct).cap
  | .freeCells => s.pool.freeCells
  | .freeDescriptors => s.pool.freeDescriptors
  | .generation => s.steer.generation.toNat
  | .activeBank => s.steer.active.code
  | .syncState => s.steer.syncing.toNat
  | .timestamp => s.now.toNat
  | .recordsLost => s.events.lost.toNat
  | .portAdmin p =>
    match p.side with
    | .edge k => (s.edge.enabled.get k).toNat
    | .trunk t => (s.trunk t).enabled.toNat
  | .portLink p => (s.link p).up.toNat
  | .arbitrationMode t => (s.trunk t).priorityMode.toNat
  | .collector t => (s.trunk t).collector.toNat
  | .windowSize t => (s.trunk t).windowSize
  | .retryInterval t => (s.trunk t).retryInterval
  | .retryLimit t => (s.trunk t).retryLimit
  | .holdTime t => (s.trunk t).holdTime
  | .trunkState t => (s.trunk t).state.code
  | .queueTrunk q => (s.queue q).trunk.port.val
  | .queuePriority q => (s.queue q).priority.val
  | .queueProfile q => (s.queue q).profile.val
  | .queueReserve q => (s.account q.acct).reserve
  | .queueCap q => (s.account q.acct).cap
  | .queueDrainLimit q => (s.queue q).drainLimit
  | .queueState q => (s.queue q).state.code
  | .threshold f => (s.profile f).threshold
  | .frameLimit f => (s.profile f).frameLimit
  | .ageLimit f => (s.profile f).ageLimit

/-- R158: operands group 1, instance 1, field 1. -/
def readItemBody (s : State) (r : Request) : State × Reply :=
  match r.item with
  | none => (s, .refuse .badIndex)
  | some i => (s, .done (be32n (s.readItem i)))

/-- READ_ITEM (R158). -/
def execReadItem (s : State) : Result := live s (s.takeRequest .readItem readItemBody)

/-! ### Writes with a behaviour of their own -/

/-- R24: an edge port is disabled: the return list is cut back to a head that is on the wire. -/
def State.edgeDisable (s : State) (k : EdgeId) : State :=
  let s1 := s.modEdge fun e => { e with enabled := e.enabled.set k false }
  if s.sendsReturn k then
    s1.loseReturns k (s.edge.returns.get k).head?.toList (s.edge.returns.get k).tail
  else s1.loseReturns k [] (s.edge.returns.get k)

/-- R24, R159: a write of an edge port's admin state. -/
def State.writeEdgeAdmin (s : State) (k : EdgeId) (v : Nat) : State × Status :=
  if 1 < v then (s, .badValue)
  else if v = 1 then (s.modEdge fun e => { e with enabled := e.enabled.set k true }, .ok)
  else if s.edge.enabled.get k then (s.edgeDisable k, .ok)
  else (s, .ok)

/-- R97: the trunk state and stop-requested after an enable. -/
def Trunk.enable (k : Trunk) (up : Bool) : Trunk :=
  let k1 := { k with enabled := true }
  match k.state with
  | .disabled => { k1 with state := if up then .running else .waiting }
  | .stopping => { k1 with state := .running }
  | .holding => { k1 with stopRequested := false }
  | .running | .waiting => k1

/-- R97, R104: an enable, and the decision point of a move into RUNNING. -/
def State.trunkEnable (s : State) (t : TrunkId) : State :=
  let s1 := s.modTrunk t fun k => k.enable (s.link t.port).up
  if (s.trunk t).state = .disabled ∨ (s.trunk t).state = .stopping then s1.trunkSelect t else s1

/-- R98: the trunk state and stop-requested after a disable. -/
def Trunk.disable (k : Trunk) : Trunk :=
  let k1 := { k with enabled := false }
  match k.state with
  | .running => { k1 with state := if k.bundles.isEmpty then .disabled else .stopping }
  | .waiting => { k1 with state := .disabled }
  | .holding => { k1 with stopRequested := true }
  | .disabled | .stopping => k1

def State.trunkDisable (s : State) (t : TrunkId) : State := s.modTrunk t Trunk.disable

/-- R97, R98, R159: a write of a trunk port's admin state. -/
def State.writeTrunkAdmin (s : State) (t : TrunkId) (v : Nat) : State × Status :=
  if v = 1 then (s.trunkEnable t, .ok)
  else if v = 0 then (s.trunkDisable t, .ok)
  else (s, .badValue)

/-- The account with another reserve. -/
def Account.withReserve (a : Account) (r : Nat) : Account := { a with reserve := r }

/-- R64: the tests of a reserve write in order; `blocked` says that the account's queue is not OFF. In test 5 the
increase, the new unused reserve less the present one, is compared with shared free without a subtraction. -/
def Pool.reserveTest (p : Pool) (a : AcctId) (r : Nat) (blocked : Bool) : Status :=
  let c := p.accounts.get a
  if 256 < r then .badValue
  else if blocked then .wrongState
  else if c.cap < r then .badValue
  else if Config.reserveSumMax + c.reserve < p.reserveSum + r then .badValue
  else if c.unused + p.freeCells < (c.withReserve r).unused + p.unusedSum then .noResource
  else .ok

/-- R64. -/
def State.writeReserve (s : State) (a : AcctId) (r : Nat) (blocked : Bool) : State × Status :=
  match s.pool.reserveTest a r blocked with
  | .ok => (s.modPool fun p => { p with accounts := p.accounts.upd a fun c => c.withReserve r }, .ok)
  | st => (s, st)

/-- R65: the tests of a cap write in order. -/
def Pool.capTest (p : Pool) (a : AcctId) (c : Nat) (blocked : Bool) : Status :=
  if c < 16 ∨ 2048 < c then .badValue
  else if blocked then .wrongState
  else if c < (p.accounts.get a).reserve then .badValue
  else if c < (p.accounts.get a).inUse then .badValue
  else .ok

/-- R65. -/
def State.writeCap (s : State) (a : AcctId) (c : Nat) (blocked : Bool) : State × Status :=
  match s.pool.capTest a c blocked with
  | .ok => (s.modPool fun p => { p with accounts := p.accounts.upd a fun x => { x with cap := c } }, .ok)
  | st => (s, st)

/-- R70: the write, and the comparison in the same step. -/
def State.writeLowWater (s : State) (v : Nat) : State × Status :=
  if v < 16 ∨ 1024 < v then (s, .badValue)
  else ((s.modPool fun p => { p with lowWater := v }).monitor, .ok)

/-! ### All writes -/

/-- R159, step 3: a value in range is written. -/
def writeIf (s : State) (inRange : Bool) (t : State) : State × Status :=
  if inRange then (t, .ok) else (s, .badValue)

/-- R159, steps 3 and 4: the range first, then the state the object must hold. -/
def writeIn (s : State) (inRange allowed : Bool) (t : State) : State × Status :=
  if !inRange then (s, .badValue) else if !allowed then (s, .wrongState) else (t, .ok)

/-- R76: the queue is OFF. -/
def State.isOff (s : State) (q : QueueId) : Bool := (s.queue q).state == .off

/-- R159, R160: a write of an existing item; a read-only item is refused BAD_INDEX. -/
def State.writeItem (s : State) (i : Item) (v : Nat) : State × Status :=
  match i with
  | .ownAddress | .lastResetCause | .freeCells | .freeDescriptors | .generation | .activeBank | .syncState | .timestamp
  | .recordsLost | .portLink _ | .trunkState _ | .queueState _ => (s, .badIndex)
  | .defaultAction =>
    match actionOf v with
    | none => (s, .badValue)
    | some a => (s.modSteer fun x => { x with defaultAction := a }, .ok)
  | .defaultQueue =>
    match index? 16 v with
    | none => (s, .badValue)
    | some q => (s.modSteer fun x => { x with defaultQueue := q }, .ok)
  | .leaseTime => writeIf s (1000 ≤ v && v ≤ 600000) (s.modMgmt fun m => { m with leaseTime := v })
  | .directoryAge => writeIf s (v ≤ 3600) (s.modEdge fun e => { e with directoryAge := v })
  | .poolLowWater => s.writeLowWater v
  | .retReserve => s.writeReserve retAcct v false
  | .retCap => s.writeCap retAcct v false
  | .portAdmin p =>
    match p.side with
    | .edge k => s.writeEdgeAdmin k v
    | .trunk t => s.writeTrunkAdmin t v
  | .arbitrationMode t => writeIf s (v ≤ 1) (s.modTrunk t fun k => { k with priorityMode := v == 1 })
  | .collector t =>
    writeIf s (1 ≤ v && v ≤ 0xFFFF) (s.modTrunk t fun k => { k with collector := BitVec.ofNat 16 v })
  | .windowSize t =>
    writeIn s (1 ≤ v && v ≤ 16) ((s.trunk t).state == .disabled) (s.modTrunk t fun k => { k with windowSize := v })
  | .retryInterval t => writeIf s (100 ≤ v && v ≤ 1000000) (s.modTrunk t fun k => { k with retryInterval := v })
  | .retryLimit t => writeIf s (v ≤ 15) (s.modTrunk t fun k => { k with retryLimit := v })
  | .holdTime t => writeIf s (v ≤ 65535) (s.modTrunk t fun k => { k with holdTime := v })
  | .queueTrunk q =>
    match index? 4 (v - 8) with
    | none => (s, .badValue)
    | some t => writeIn s (8 ≤ v) (s.isOff q) (s.modQueue q fun u => { u with trunk := t })
  | .queuePriority q =>
    match index? 4 v with
    | none => (s, .badValue)
    | some l => (s.modQueue q fun u => { u with priority := l }, .ok)
  | .queueProfile q =>
    match index? 8 v with
    | none => (s, .badValue)
    | some f => writeIn s true (s.isOff q) (s.modQueue q fun u => { u with profile := f })
  | .queueReserve q => s.writeReserve q.acct v !s.isOff q
  | .queueCap q => s.writeCap q.acct v !s.isOff q
  | .queueDrainLimit q => writeIf s (1 ≤ v && v ≤ 65535) (s.modQueue q fun u => { u with drainLimit := v })
  | .threshold f =>
    writeIf s (256 ≤ v && v ≤ 4096 && v % 64 == 0) (s.modProfile f fun x => { x with threshold := v })
  | .frameLimit f => writeIf s (1 ≤ v && v ≤ 32) (s.modProfile f fun x => { x with frameLimit := v })
  | .ageLimit f =>
    writeIf s (v == 0 || (10 ≤ v && v ≤ 1000000)) (s.modProfile f fun x => { x with ageLimit := v })

/-- R159: operands group 1, instance 1, field 1, value 4. -/
def writeItemBody (s : State) (r : Request) : State × Reply :=
  match r.item with
  | none => (s, .refuse .badIndex)
  | some i => ((s.writeItem i r.value).1, .refuse (s.writeItem i r.value).2)

/-- WRITE_ITEM (R159): the items with no behaviour of their own, and every name that does not exist. -/
def execWriteItem (s : State) : Result := live s (s.takeRequest .writeItem writeItemBody)

/-- WRITE_EDGE_ADMIN_STATE (R24). -/
def execWriteEdgeAdminState (s : State) : Result := live s (s.takeRequest .writeEdgeAdminState writeItemBody)

/-- WRITE_TRUNK_ADMIN_ENABLED (R97). -/
def execWriteTrunkAdminEnabled (s : State) : Result := live s (s.takeRequest .writeTrunkAdminEnabled writeItemBody)

/-- WRITE_TRUNK_ADMIN_DISABLED (R98). -/
def execWriteTrunkAdminDisabled (s : State) : Result := live s (s.takeRequest .writeTrunkAdminDisabled writeItemBody)

/-- WRITE_RESERVE (R64). -/
def execWriteReserve (s : State) : Result := live s (s.takeRequest .writeReserve writeItemBody)

/-- WRITE_CAP (R65). -/
def execWriteCap (s : State) : Result := live s (s.takeRequest .writeCap writeItemBody)

/-- WRITE_POOL_LOW_WATER (R70). -/
def execWritePoolLowWater (s : State) : Result := live s (s.takeRequest .writePoolLowWater writeItemBody)

/-! ### Counters -/

/-- R163: the counter groups. -/
inductive Group where
  | port (p : Port)
  | queue (q : QueueId)
  | trunk (t : TrunkId)
  | mgmt
  deriving DecidableEq, Repr

/-- R163: the group that a code and an instance number name, if there is one. -/
def Group.ofName (code inst : Nat) : Option Group :=
  match code with
  | 1 => (index? 12 inst).map .port
  | 2 => (index? 16 inst).map .queue
  | 4 => if inst < 8 then none else (index? 4 (inst - 8)).map .trunk
  | 5 => if inst = 0 then some .mgmt else none
  | _ => none

/-- R163, R164: the copy of a group. -/
def Counters.bytes (c : Counters) (g : Group) : List Byte :=
  match g with
  | .port p => groupBytes (c.port.get p)
  | .queue q => groupBytes (c.queue.get q)
  | .trunk t => groupBytes (c.trunk.get t)
  | .mgmt => groupBytes c.mgmt

/-- R164: the clear of a group. -/
def Counters.clear (c : Counters) (g : Group) : Counters :=
  match g with
  | .port p => { c with port := c.port.set p (.replicate 20 0) }
  | .queue q => { c with queue := c.queue.set q (.replicate 13 0) }
  | .trunk t => { c with trunk := c.trunk.set t (.replicate 7 0) }
  | .mgmt => { c with mgmt := .replicate 5 0 }

/-- R163: operands group 1, instance 1. -/
def Request.group (r : Request) : Option Group := Group.ofName (r.opNat 0) (r.opNat 1)

/-- R164 without the clear flag. -/
def readCountersBody (s : State) (r : Request) : State × Reply :=
  match r.group with
  | none => (s, .refuse .badIndex)
  | some g => (s, .done (s.counters.bytes g))

/-- READ_COUNTERS (R163, R164). -/
def execReadCounters (s : State) : Result := live s (s.takeRequest .readCounters readCountersBody)

/-- R164 with the clear flag. -/
def readCountersClearBody (s : State) (r : Request) : State × Reply :=
  match r.group with
  | none => (s, .refuse .badIndex)
  | some g => (s.modCounters fun c => c.clear g, .done (s.counters.bytes g))

/-- READ_COUNTERS_CLEAR (R163, R164). -/
def execReadCountersClear (s : State) : Result := live s (s.takeRequest .readCountersClear readCountersClearBody)

end Sys2Proof.Machine
end

