-- ==== Sys2Proof/Machine/Ownership.lean ====
section
/-! DEFINITION. The requests of the management unit itself: IDENTIFY (R150), CLAIM (R145), RELEASE (R146), RESTART
(R152) and a request of an unknown kind (R139, R142). -/

namespace Sys2Proof.Machine

/-- R150. -/
def State.identityBytes (s : State) : List Byte :=
  be16 Config.vendorCode ++ be16 Config.partCode ++ [Config.revision] ++ be16 s.ownAddress ++
    be16 s.steer.generation ++ [byteOf s.steer.active.code] ++ be16 s.ownerAddress ++ [byteOf s.mgmt.lastCause.code]

/-- R150. -/
def identifyBody (s : State) (_ : Request) : State × Reply := (s, .done s.identityBytes)

/-- IDENTIFY (R150). -/
def execIdentify (s : State) : Result := live s (s.takeRequest .identify identifyBody)

/-- R145: the record of a claim taken now. -/
def State.claimedBy (s : State) (r : Request) : Owner :=
  { addr := r.src, port := r.port, lease := deadlineAfter s.now (1000 * s.mgmt.leaseTime) }

/-- R145: an OK response carries the owner port and the lease time. -/
def State.claimBytes (s : State) (r : Request) : List Byte := [byteOf r.port.val] ++ be32n s.mgmt.leaseTime

/-- R145. -/
def claimBody (s : State) (r : Request) : State × Reply :=
  match s.mgmt.owner with
  | none =>
    ((s.modMgmt fun m => { m with owner := some (s.claimedBy r) }).raise .managementUnit
      [raiseOf .ownerChanged r.port.val r.src.toNat], .done (s.claimBytes r))
  | some o =>
    if o.addr = r.src then (s, .done (s.claimBytes r)) else (s, { status := .busy, data := be16 o.addr })

/-- CLAIM (R145). -/
def execClaim (s : State) : Result := live s (s.takeRequest .claim claimBody)

/-- R146. -/
def releaseBody (s : State) (r : Request) : State × Reply :=
  if s.ownedBy r.src then
    ((s.modMgmt fun m => { m with owner := none }).raise .managementUnit [raiseOf .ownerChanged r.port.val 0], .done [])
  else (s, { status := .notOwner, data := be16 s.ownerAddress })

/-- RELEASE (R146). -/
def execRelease (s : State) : Result := live s (s.takeRequest .release releaseBody)

/-- R152: no kind-specific check; the response carries the mark (`State.takeRequest`). -/
def restartBody (s : State) (_ : Request) : State × Reply := (s, .done [])

/-- RESTART (R152). -/
def execRestart (s : State) : Result := live s (s.takeRequest .restart restartBody)

/-- R139: never reached, since the form check refuses an unknown kind. -/
def unknownBody (s : State) (_ : Request) : State × Reply := (s, .refuse .badRequest)

/-- UNKNOWN_REQUEST_KIND (R139, R142). -/
def execUnknownRequestKind (s : State) : Result := live s (s.takeRequest .unknownRequestKind unknownBody)

end Sys2Proof.Machine
end

