-- ==== Sys2Proof/Machine/Dispatch.lean ====
section
/-! DEFINITION. One arm per row of spec/opcode_table.json: the meaning of each command. -/

namespace Sys2Proof.Machine

def exec (i : Instr) (s : State) : Host.Outcome State Fault Refusal :=
  match i with
  | .hardReset straps => Sys2Proof.Machine.execHardReset straps s
  | .linkUp p => Sys2Proof.Machine.execLinkUp p s
  | .linkDown p receiving => Sys2Proof.Machine.execLinkDown p receiving s
  | .receptionAborted p => Sys2Proof.Machine.execReceptionAborted p s
  | .frameArrival p bytes => Sys2Proof.Machine.execFrameArrival p bytes s
  | .transmissionEnd p responseFirst => Sys2Proof.Machine.execTransmissionEnd p responseFirst s
  | .directorySecondExpiry => Sys2Proof.Machine.execDirectorySecondExpiry s
  | .ageDeadlineExpiry q => Sys2Proof.Machine.execAgeDeadlineExpiry q s
  | .drainDeadlineExpiry q => Sys2Proof.Machine.execDrainDeadlineExpiry q s
  | .holdDeadlineExpiry p => Sys2Proof.Machine.execHoldDeadlineExpiry p s
  | .retryDeadlineExpiry p seq => Sys2Proof.Machine.execRetryDeadlineExpiry p seq s
  | .leaseDeadlineExpiry => Sys2Proof.Machine.execLeaseDeadlineExpiry s
  | .responseWaitExpiry => Sys2Proof.Machine.execResponseWaitExpiry s
  | .repeatDeadlineExpiry k => Sys2Proof.Machine.execRepeatDeadlineExpiry k s
  | .syncStep => Sys2Proof.Machine.execSyncStep s
  | .eventRaise b => Sys2Proof.Machine.execEventRaise b s
  | .restartBegin => Sys2Proof.Machine.execRestartBegin s
  | .identify => Sys2Proof.Machine.execIdentify s
  | .claim => Sys2Proof.Machine.execClaim s
  | .release => Sys2Proof.Machine.execRelease s
  | .readItem => Sys2Proof.Machine.execReadItem s
  | .writeItem => Sys2Proof.Machine.execWriteItem s
  | .writeEdgeAdminState => Sys2Proof.Machine.execWriteEdgeAdminState s
  | .writeTrunkAdminEnabled => Sys2Proof.Machine.execWriteTrunkAdminEnabled s
  | .writeTrunkAdminDisabled => Sys2Proof.Machine.execWriteTrunkAdminDisabled s
  | .writeReserve => Sys2Proof.Machine.execWriteReserve s
  | .writeCap => Sys2Proof.Machine.execWriteCap s
  | .writePoolLowWater => Sys2Proof.Machine.execWritePoolLowWater s
  | .tableWrite => Sys2Proof.Machine.execTableWrite s
  | .tableClear => Sys2Proof.Machine.execTableClear s
  | .tableRead => Sys2Proof.Machine.execTableRead s
  | .readHits => Sys2Proof.Machine.execReadHits s
  | .commit => Sys2Proof.Machine.execCommit s
  | .queueStart => Sys2Proof.Machine.execQueueStart s
  | .queueHalt => Sys2Proof.Machine.execQueueHalt s
  | .queueFlush => Sys2Proof.Machine.execQueueFlush s
  | .queuePurge => Sys2Proof.Machine.execQueuePurge s
  | .queueStatus => Sys2Proof.Machine.execQueueStatus s
  | .dirPin => Sys2Proof.Machine.execDirPin s
  | .dirUnpin => Sys2Proof.Machine.execDirUnpin s
  | .dirFlush => Sys2Proof.Machine.execDirFlush s
  | .dirRead => Sys2Proof.Machine.execDirRead s
  | .subscribe => Sys2Proof.Machine.execSubscribe s
  | .unsubscribe => Sys2Proof.Machine.execUnsubscribe s
  | .eventAck => Sys2Proof.Machine.execEventAck s
  | .readEvents => Sys2Proof.Machine.execReadEvents s
  | .readEventsTake => Sys2Proof.Machine.execReadEventsTake s
  | .readCounters => Sys2Proof.Machine.execReadCounters s
  | .readCountersClear => Sys2Proof.Machine.execReadCountersClear s
  | .restart => Sys2Proof.Machine.execRestart s
  | .unknownRequestKind => Sys2Proof.Machine.execUnknownRequestKind s
  | .resetNLow => Sys2Proof.Machine.execResetNLow s
  | .timestampTick => Sys2Proof.Machine.execTimestampTick s

end Sys2Proof.Machine
end

