-- ==== Sys2Proof/Safety.lean ====
section
/-! DEFINITION. The invariants of the part, as the manual states them (capacities, slot sets, directory, transmitters and
windows, storage), and the words in which the statements about commands are put. -/

namespace Sys2Proof.Machine

/-! ### Capacities (R136) -/

/-- R136: the request queue never holds more than 4 requests, a control list 8 frames, a return list 32 frames, the
event record queue 32 records. -/
def Capacities (s : State) : Prop :=
  s.mgmt.requests.length ≤ 4 ∧
    (∀ p : Port, (s.link p).control.length ≤ 8) ∧
    (∀ k : EdgeId, (s.edge.returns.get k).length ≤ 32) ∧
    s.events.records.length ≤ 32

/-! ### Slot sets (R173) -/

/-- R173: owed and pending are disjoint, recurred is within pending, all three are within the kind set; the repeat
deadline runs exactly while a kind is pending and the interval is not 0; a slot not in use has empty sets. -/
def Slot.setsOk (x : Slot) : Prop :=
  x.owed &&& x.pending = 0 ∧ x.recurred &&& ~~~x.pending = 0 ∧
    x.owed &&& ~~~x.kindSet = 0 ∧ x.pending &&& ~~~x.kindSet = 0 ∧
    (x.repeatDeadline.isSome = true ↔ x.pending ≠ 0 ∧ x.repeatInterval ≠ 0) ∧
    (x.inUse = false → x.owed = 0 ∧ x.pending = 0)

def SlotSets (s : State) : Prop := ∀ i : SlotId, (s.slot i).setsOk

/-! ### The directory (R26, R30) -/

/-- R26, R30: a node address stands at most once and is never 0x0000 or 0xFFFF; the full-refusal flag is set only while
the directory is full. -/
def DirectoryOk (s : State) : Prop :=
  (∀ (i : DirPos) (d : DirEntry), s.edge.directory.get i = some d → d.addr ≠ 0x0000 ∧ d.addr ≠ 0xFFFF) ∧
    (∀ (i j : DirPos) (d e : DirEntry),
      s.edge.directory.get i = some d → s.edge.directory.get j = some e → d.addr = e.addr → i = j) ∧
    (s.edge.fullRefusal = true → ∀ i : DirPos, (s.edge.directory.get i).isSome = true)

/-! ### Transmitters, trunk states and windows (R8, R13, R96, R117, R118) -/

/-- The frame on the wire is this one, stamped with some link sequence (R7, R8). -/
def OnWire.carries (w : OnWire) (f : Frame) : Prop := w.frame = { f with seq := w.frame.seq }

/-- R8: the frame that a transmitter is sending stays with its owner. -/
def State.wireOwned (s : State) (p : Port) (w : OnWire) : Prop :=
  match w.owner with
  | .control => ∃ c ∈ (s.link p).control.head?, w.carries c.frame
  | .returnFrame =>
    match p.side with
    | .edge k => ∃ f ∈ (s.edge.returns.get k).head?, w.carries f
    | .trunk _ => False
  | .bundle seq =>
    match p.side with
    | .edge _ => False
    | .trunk t => ∃ b ∈ (s.trunk t).bundles, b.seq = seq

/-- R3, R8, R13: a port whose link is DOWN sends nothing and has an empty control list; a frame on the wire is its
owner's. -/
def LinksOk (s : State) : Prop :=
  ∀ p : Port,
    ((s.link p).up = false → (s.link p).wire = none ∧ (s.link p).control = []) ∧
      ∀ w ∈ (s.link p).wire, s.wireOwned p w

/-- R96: the table of the trunk states; `up` is the link state of the port. -/
def Trunk.tableOk (k : Trunk) (up : Bool) : Prop :=
  match k.state with
  | .disabled => k.enabled = false ∧ k.bundles = [] ∧ k.stopRequested = false ∧ k.hold = none
  | .waiting => k.enabled = true ∧ up = false ∧ k.bundles = [] ∧ k.stopRequested = false ∧ k.hold = none
  | .running => k.enabled = true ∧ up = true ∧ k.stopRequested = false ∧ k.hold = none
  | .stopping => k.enabled = false ∧ up = true ∧ k.bundles ≠ [] ∧ k.stopRequested = false ∧ k.hold = none
  | .holding => up = false ∧ k.bundles ≠ [] ∧ k.stopRequested = !k.enabled ∧ k.hold.isSome = true

/-- R117: how far a sequence lies before the next sequence. -/
def Trunk.age (k : Trunk) (seq : Byte) : Nat := (k.nextSeq - seq).toNat

/-- R117: the OUTSTANDING bundles are at most the window size; every sequence lies within 16 before the next; the bundles
stand oldest first, so that no sequence stands twice. -/
def Trunk.windowOk (k : Trunk) : Prop :=
  1 ≤ k.windowSize ∧ k.windowSize ≤ 16 ∧
    (k.bundles.filter fun b => !b.retiring).length ≤ k.windowSize ∧
    (∀ b ∈ k.bundles, 1 ≤ k.age b.seq ∧ k.age b.seq ≤ 16) ∧
    k.bundles.Pairwise fun a b => k.age b.seq < k.age a.seq

/-- R118: the conditions of one bundle; `sending` says that it is on the wire. A RETIRING bundle is on the wire; a bundle
on the wire is not due and has no retry deadline; a due bundle has none; a bundle neither on the wire, nor due, nor
waiting is held, which is so in HOLDING only, where no retry deadline runs. -/
def Bundle.conditionOk (b : Bundle) (state : TrunkMode) (sending : Bool) : Prop :=
  (b.retiring = true → sending = true) ∧
    (sending = true → b.due = none ∧ b.retryDeadline = none) ∧
    (b.due ≠ none → b.retryDeadline = none) ∧
    (sending = false → b.due = none → b.retryDeadline = none → state = .holding) ∧
    (state = .holding → b.retryDeadline = none) ∧
    b.retry ≤ 15

def TrunksOk (s : State) : Prop :=
  ∀ t : TrunkId,
    (s.trunk t).tableOk (s.link t.port).up ∧ (s.trunk t).windowOk ∧
      ∀ b ∈ (s.trunk t).bundles, b.conditionOk (s.trunk t).state (s.onWire t b.seq)

/-- What holds of transmitters, trunk units and delivery windows between any two steps. While RESET_N is low the part
is frozen and its transmitters are idle (R155, log 13), so nothing is claimed then. -/
def TrunkInv (s : State) : Prop := s.resetLow = false → LinksOk s ∧ TrunksOk s

/-! ### Storage (R58, R60, R61, R64 to R66, R69, R73, R76, R86, R91) -/

/-- The bundles of queue `q`, in every window. -/
def State.bundlesOf (s : State) (q : QueueId) : List Bundle :=
  (List.finRange 4).flatMap fun (t : TrunkId) => (s.trunk t).bundlesOf q

/-- The batches charged to queue `q`: open, ready, and in a window (R91). -/
def State.batchesOf (s : State) (q : QueueId) : List Batch := (s.queue q).held ++ (s.bundlesOf q).map Bundle.batch

/-- R58, R60: every account is charged exactly the cells of the chains it holds; with the free cells they make 2,048. -/
def CellsOk (s : State) : Prop :=
  (∀ q : QueueId, (s.account q.acct).inUse = ((s.batchesOf q).map Batch.cells).sum) ∧
    (s.account retAcct).inUse = (s.edge.returns.list.map fun l => (l.map returnCells).sum).sum ∧
    s.pool.freeCells + s.pool.inUseSum = 2048

/-- R66: free descriptors and descriptors in use always number 256. -/
def DescriptorsOk (s : State) : Prop :=
  s.pool.freeDescriptors + ((List.finRange 16).map fun q => (s.batchesOf q).length).sum = 256

/-- R60, R61, R64, R65, R69: no account passes its cap, the unused reserves are covered by free cells, the items are in
range, and the monitor stands where R69's table leaves it. -/
def PoolOk (p : Pool) : Prop :=
  (∀ a : AcctId, (p.accounts.get a).inUse ≤ (p.accounts.get a).cap ∧ (p.accounts.get a).reserve ≤ (p.accounts.get a).cap) ∧
    p.unusedSum ≤ p.freeCells ∧ p.reserveSum ≤ 1024 ∧
    16 ≤ p.lowWater ∧ p.lowWater ≤ 1024 ∧
    (if p.low then p.freeCells < p.lowWater + 64 else p.lowWater ≤ p.freeCells)

/-- R73, R76, R82, R86, R91: what a queue holds in each of its states, where its bundles are, and that what it holds is
its own. -/
def State.queueOk (s : State) (q : QueueId) : Prop :=
  (s.queue q).outstanding = (s.bundlesOf q).length ∧
    (∀ t : TrunkId, (s.trunk t).bundlesOf q ≠ [] → (s.queue q).trunk = t) ∧
    (∀ b ∈ s.batchesOf q, b.queue = q) ∧
    (match (s.queue q).state with
    | .off => s.batchesOf q = [] ∧ (s.queue q).drain = none
    | .active => (s.queue q).drain = none
    | .halting =>
      (s.queue q).openBatch = none ∧ (s.queue q).drain.isSome = true ∧
        ¬ ((s.queue q).ready = [] ∧ (s.queue q).outstanding = 0))

/-- What holds of the cell pool and the queue unit between any two steps. -/
def StorageInv (s : State) : Prop := CellsOk s ∧ DescriptorsOk s ∧ PoolOk s.pool ∧ ∀ q : QueueId, s.queueOk q

/-! ### The abort at link DOWN -/

/-- R100, R122: the window of trunk port `t` after the abort that link DOWN makes: a RETIRING bundle on the wire is gone. -/
def State.keptAtAbort (s : State) (t : TrunkId) : List Bundle :=
  match (s.link t.port).wire.map OnWire.owner with
  | some (.bundle seq) =>
    match (s.trunk t).bundles.find? fun b => b.seq == seq with
    | some b => if b.retiring then (s.trunk t).bundles.eraseP fun x => x.seq == seq else (s.trunk t).bundles
    | none => (s.trunk t).bundles
  | _ => (s.trunk t).bundles

/-! ### Requests -/

/-- The command of a row that takes a request. -/
def RequestRow.instr : RequestRow → Instr
  | .identify => .identify
  | .claim => .claim
  | .release => .release
  | .readItem => .readItem
  | .writeItem => .writeItem
  | .writeEdgeAdminState => .writeEdgeAdminState
  | .writeTrunkAdminEnabled => .writeTrunkAdminEnabled
  | .writeTrunkAdminDisabled => .writeTrunkAdminDisabled
  | .writeReserve => .writeReserve
  | .writeCap => .writeCap
  | .writePoolLowWater => .writePoolLowWater
  | .tableWrite => .tableWrite
  | .tableClear => .tableClear
  | .tableRead => .tableRead
  | .readHits => .readHits
  | .commit => .commit
  | .queueStart => .queueStart
  | .queueHalt => .queueHalt
  | .queueFlush => .queueFlush
  | .queuePurge => .queuePurge
  | .queueStatus => .queueStatus
  | .dirPin => .dirPin
  | .dirUnpin => .dirUnpin
  | .dirFlush => .dirFlush
  | .dirRead => .dirRead
  | .subscribe => .subscribe
  | .unsubscribe => .unsubscribe
  | .eventAck => .eventAck
  | .readEvents => .readEvents
  | .readEventsTake => .readEventsTake
  | .readCounters => .readCounters
  | .readCountersClear => .readCountersClear
  | .restart => .restart
  | .unknownRequestKind => .unknownRequestKind

/-- R138: the part is not in reset, the unit is READY, and `r` is the head of the request queue. -/
def State.heads (s : State) (r : Request) (rest : List Request) : Prop :=
  s.resetLow = false ∧ s.mgmt.mode = .ready ∧ s.mgmt.requests = r :: rest

/-- R139: `r` is of kind `k` and passes the form check and the ownership check. -/
def State.admits (s : State) (r : Request) (rest : List Request) (k : RequestKind) : Prop :=
  s.heads r rest ∧ r.kind = some k ∧ r.payload.length = 4 + k.operandLength ∧
    (r.mutating = true → s.mgmt.owner.map Owner.addr = some r.src)

/-- R142: the state `u` that an execution has left, after the response with this status and data has been offered. -/
def State.answered (u : State) (r : Request) (st : Status) (data : List Byte) : State :=
  u.respond r.port { frame := responseFrame u.ownAddress r { status := st, data := data }, restart := false }

end Sys2Proof.Machine
end

