-- ==== Sys2Proof/Certificates/Slice0/Obligations.lean ====
section
/-! DEFINITION. The statements about the part, from the rules of the manual. -/

open Sys2Proof Sys2Proof.Machine

/-! ### Steps and resets -/

/-- A step takes the command at the front of the queue and is its meaning on the rest. With no command waiting the
block idles: the model's choice (log 17). -/
def Obligations.StepRunsTheFrontCommand : Prop :=
  (∀ (c : Instr) (rest : List Instr) (s : State), s.pending = c :: rest → step s = exec c { s with pending := rest }) ∧
    ∀ s : State, s.pending = [] → step s = .next s

/-- No command stops the part, and none touches the commands that wait behind it. -/
def Obligations.EveryCommandAnswersNext : Prop :=
  ∀ (c : Instr) (s : State), ∃ t, exec c s = .next t ∧ t.pending = s.pending

/-- R155, R156 and the hard reset values of every block, written out. The idle transmitter, the one-second deadline
and the next index are as logs 13, 14 and R56 say; the free orders of restarts to come stay (log 6). -/
def Obligations.HardResetValues : Prop :=
  ∀ (straps : BitVec 6) (s : State), ∃ t, exec (.hardReset straps) s = .next t ∧
    t.pending = s.pending ∧ t.resetLow = false ∧ t.now = 0 ∧ t.ownAddress = 0xFE00 + straps.setWidth 16 ∧
    (∀ p, t.link p = { up := false, txCount := 0, wire := none, control := [] }) ∧
    (∀ k, t.edge.enabled.get k = true) ∧ (∀ i, t.edge.directory.get i = none) ∧ t.edge.seconds = 0 ∧
    t.edge.secondDeadline = 1000000 ∧ t.edge.fullRefusal = false ∧ t.edge.directoryAge = 300 ∧
    (∀ k, t.edge.returns.get k = []) ∧
    (∀ i, t.steer.bankA.get i = .blank) ∧ (∀ i, t.steer.bankB.get i = .blank) ∧ (∀ i, t.steer.hitsA.get i = 0) ∧
    (∀ i, t.steer.hitsB.get i = 0) ∧ t.steer.active = .a ∧ t.steer.generation = 0 ∧
    (∀ i, t.steer.marks.get i = false) ∧ t.steer.syncing = false ∧ t.steer.nextIndex = 0 ∧
    t.steer.defaultAction = .discard ∧ t.steer.defaultQueue = 0 ∧
    t.pool.freeCells = 2048 ∧ (∀ q : QueueId, t.account q.acct = { inUse := 0, reserve := 0, cap := 256 }) ∧
    t.account retAcct = { inUse := 0, reserve := 64, cap := 512 } ∧ t.pool.freeDescriptors = 256 ∧
    t.pool.lowWater = 128 ∧ t.pool.low = false ∧
    (∀ q, t.queue q = { state := .off, openBatch := none, ready := [], outstanding := 0, drain := none, trunk := 0,
                        priority := 0, profile := 0, drainLimit := 1000 }) ∧
    (∀ f, t.profile f = { threshold := 1024, frameLimit := 16, ageLimit := 1000 }) ∧
    (∀ j, t.trunk j = { enabled := true, state := .waiting, stopRequested := false, hold := none, priorityMode := false,
                        collector := 0xFFFF, windowSize := 4, retryInterval := 2000, retryLimit := 3, holdTime := 500,
                        rrPointer := 15, levelPointers := .replicate 4 15, nextSeq := 0, bundles := [] }) ∧
    t.mgmt = { requests := [], overflow := false, mode := .ready, owner := none, leaseTime := 10000,
               lastCause := .power } ∧
    (∀ i, t.slot i = { inUse := false, addr := 0, port := 0, kindSet := 0, repeatInterval := 0, noteSeq := 0, owed := 0,
                       pending := 0, recurred := 0, repeatDeadline := none }) ∧
    t.events.records = [] ∧ t.events.lost = 0 ∧ t.events.raised = [] ∧ t.events.awaiting = [] ∧
    t.events.orders = s.events.orders ∧
    (∀ p c, t.portCounter p c = 0) ∧ (∀ q c, t.queueCounter q c = 0) ∧ (∀ j c, t.trunkCounter j c = 0) ∧
    (∀ c, t.mgmtCounter c = 0)

/-- R155: from RESET_N low on the part takes no event until the hard reset ends; R166: a microsecond that passes
otherwise adds 1 to the timestamp and nothing else. (That the rest of the state is kept while RESET_N is low: log 13.)
-/
def Obligations.ResetLowHoldsThePart : Prop :=
  (∀ s : State, ∃ t, exec .resetNLow s = .next t ∧ t.resetLow = true ∧ (∀ p, (t.link p).wire = none)) ∧
    (∀ (c : Instr) (s : State), s.resetLow = true → (∀ straps, c ≠ .hardReset straps) → c ≠ .resetNLow →
      exec c s = .next s) ∧
    (∀ s : State, s.resetLow = false → exec .timestampTick s = .next { s with now := s.now + 1 })

/-! ### Link reports -/

/-- R2, R25, R101: a report of UP. The events and opportunities are taken before the selector is asked (log 5). (The
model's: log 4.) -/
def Obligations.LinkUpReport : Prop :=
  ∀ (p : Port) (s : State), s.resetLow = false →
    ((s.link p).up = true → exec (.linkUp p) s = .next s) ∧
    ((s.link p).up = false → ∃ u : State,
      exec (.linkUp p) s = .next (((u.takeAllOf (.linkLayer p)).opportunity p).select p) ∧
      u = { s with links := u.links, trunks := u.trunks, events := u.events } ∧
      u.link p = { s.link p with up := true } ∧ (∀ q, q ≠ p → u.link q = s.link q) ∧
      u.events = { s.events with raised := s.events.raised ++
        [{ block := .linkLayer p, events := [{ kind := .linkUp, subject := byteOf p.val, detail := 0 }] }] } ∧
      (∀ t : TrunkId, t.port ≠ p → u.trunk t = s.trunk t) ∧
      (∀ t : TrunkId, t.port = p →
        ((s.trunk t).state = .waiting → u.trunk t = { s.trunk t with state := .running }) ∧
        ((s.trunk t).state = .holding → u.trunk t = { s.trunk t with
          hold := none, stopRequested := false,
          state := if (s.trunk t).stopRequested then .stopping else .running,
          bundles := (s.trunk t).bundles.map fun b =>
            { b with due := match b.due with | none => some .uncounted | some f => some f } }) ∧
        ((s.trunk t).state ≠ .waiting → (s.trunk t).state ≠ .holding → u.trunk t = s.trunk t)))

/-- R3, R8, R15, R143, R153: what the link layer and the management unit do at a report of DOWN, at any port. (The
model's: logs 4, 7 and 11.) -/
def Obligations.LinkDownReport : Prop :=
  ∀ (p : Port) (receiving : Bool) (s : State), s.resetLow = false →
    ((s.link p).up = false → exec (.linkDown p receiving) s = .next s) ∧
    ((s.link p).up = true → ∃ t, exec (.linkDown p receiving) s = .next t ∧
      t = { s with links := t.links, edge := t.edge, pool := t.pool, queues := t.queues, trunks := t.trunks,
                   mgmt := t.mgmt, events := t.events, counters := t.counters } ∧
      t.link p = { up := false, txCount := (s.link p).txCount, wire := none, control := [] } ∧
      (∀ q, q ≠ p → t.link q = s.link q) ∧
      t.portCounter p .controlLost = satAdd (s.portCounter p .controlLost) (s.link p).control.length ∧
      t.portCounter p .aborted = satAdd (s.portCounter p .aborted) receiving.toNat ∧
      (∀ q c, q ≠ p ∨ (c ≠ .controlLost ∧ c ≠ .aborted ∧ c ≠ .returnLost) → t.portCounter q c = s.portCounter q c) ∧
      (∀ j : TrunkId, t.trunkCounter j .transmitAborted =
        satAdd (s.trunkCounter j .transmitAborted) (if j.port = p ∧ (s.link p).wire.isSome then 1 else 0)) ∧
      (∀ (j : TrunkId) c, c ≠ .transmitAborted → c ≠ .bundlesAbandoned → t.trunkCounter j c = s.trunkCounter j c) ∧
      (∃ later, t.events = { s.events with raised := s.events.raised ++
        { block := .linkLayer p, events := [raiseOf .linkDown p.val (s.link p).control.length] } :: later }) ∧
      t.mgmt = { s.mgmt with mode := t.mgmt.mode } ∧
      (∀ c d, s.mgmt.mode = .responseWait c p d → t.mgmt.mode = if c.restart then .restartDue else .ready) ∧
      ((∀ c d, s.mgmt.mode ≠ .responseWait c p d) → t.mgmt.mode =
        if s.mgmt.mode = .restartWait ∧ (s.link p).control.any ControlFrame.restart = true then .restartDue
        else s.mgmt.mode) ∧
      ((∃ c d, s.mgmt.mode = .responseWait c p d ∧ c.restart = false) →
        t.mgmtCounter .responseLost = satAdd (s.mgmtCounter .responseLost) 1) ∧
      (¬ (∃ c d, s.mgmt.mode = .responseWait c p d ∧ c.restart = false) → t.counters.mgmt = s.counters.mgmt))

/-- R25: what the edge unit does at a report of DOWN at one of its ports. -/
def Obligations.LinkDownAtEdgePort : Prop :=
  ∀ (k : EdgeId) (receiving : Bool) (s : State), s.resetLow = false → (s.link k.port).up = true →
    ∃ t, exec (.linkDown k.port receiving) s = .next t ∧ t.queues = s.queues ∧ t.trunks = s.trunks ∧
      t.counters.queue = s.counters.queue ∧ t.counters.trunk = s.counters.trunk ∧
      t.edge = { s.edge with directory := t.edge.directory, fullRefusal := t.edge.fullRefusal,
                             returns := s.edge.returns.set k [] } ∧
      (∀ i, t.edge.directory.get i =
        match s.edge.directory.get i with
        | none => none
        | some d => if d.port = k ∧ d.origin = .learned then none else some d) ∧
      (t.edge.fullRefusal = true ↔ s.edge.fullRefusal = true ∧
        ¬ ((∀ i, (s.edge.directory.get i).isSome = true) ∧ ∃ i, t.edge.directory.get i = none)) ∧
      t.portCounter k.port .returnLost =
        satAdd (s.portCounter k.port .returnLost) (s.edge.returns.get k).length ∧
      t.pool = { s.pool with
        freeCells := s.pool.freeCells + ((s.edge.returns.get k).map returnCells).sum
        accounts := s.pool.accounts.set retAcct { s.account retAcct with
          inUse := (s.account retAcct).inUse - ((s.edge.returns.get k).map returnCells).sum }
        low := t.pool.low }

/-- R100, R122: what the trunk unit does at a report of DOWN. `kept` is the window without a RETIRING bundle whose
transmission the report aborts. With a hold time of 0 the hold expires in the same step (R102). (The model's:
logs 4, 21 and 32.) -/
def Obligations.LinkDownAtTrunkPort : Prop :=
  (∀ (k : Trunk) (q : QueueId), k.bundlesOf q = k.bundles.filter fun b => b.batch.queue == q) ∧
  ∀ (j : TrunkId) (receiving : Bool) (s : State) (kept : List Bundle), s.resetLow = false → (s.link j.port).up = true →
    kept = s.keptAtAbort j →
    ∃ t, exec (.linkDown j.port receiving) s = .next t ∧ (∀ i, i ≠ j → t.trunk i = s.trunk i) ∧
      t.edge = s.edge ∧
      ((s.trunk j).state = .running → kept = [] → t.trunk j = { s.trunk j with state := .waiting, bundles := [] }) ∧
      ((s.trunk j).state = .stopping → kept = [] → t.trunk j = { s.trunk j with state := .disabled, bundles := [] }) ∧
      ((s.trunk j).state = .running ∨ (s.trunk j).state = .stopping → kept ≠ [] → (s.trunk j).holdTime ≠ 0 →
        t.trunk j = { s.trunk j with
          state := .holding
          stopRequested := (s.trunk j).state == .stopping
          hold := some (s.now + BitVec.ofNat 32 (1000 * (s.trunk j).holdTime))
          bundles := kept.map fun b => { b with retryDeadline := none } }) ∧
      ((s.trunk j).state = .running ∨ (s.trunk j).state = .stopping → kept ≠ [] → (s.trunk j).holdTime = 0 →
        t.trunk j = { s.trunk j with
          state := if (s.trunk j).state = .stopping then .disabled else .waiting
          stopRequested := false
          hold := none
          bundles := [] } ∧
        (∀ q, (t.queue q).outstanding = (s.queue q).outstanding - ((s.trunk j).bundlesOf q).length) ∧
        (∀ q, t.queueCounter q .framesAbandoned = satAdd (s.queueCounter q .framesAbandoned)
          ((kept.filter fun b => b.batch.queue == q).map fun b => b.batch.members.length).sum) ∧
        t.trunkCounter j .bundlesAbandoned = satAdd (s.trunkCounter j .bundlesAbandoned) kept.length ∧
        t.pool.freeDescriptors = s.pool.freeDescriptors + (s.trunk j).bundles.length ∧
        t.pool.freeCells = s.pool.freeCells + ((s.trunk j).bundles.map fun b => b.batch.cells).sum ∧
        (∃ others offs, (∀ a ∈ others, a.block = .linkLayer j.port ∨ a.block = .cellPool ∨ a.block = .queueUnit) ∧
          (∀ e ∈ offs, e.kind = .queueOff ∧ e.detail = 1) ∧
          t.events = { s.events with raised := s.events.raised ++ others ++ [{ block := .trunkUnit j, events :=
            offs ++ [{ kind := .holdExpired, subject := byteOf j.port.val, detail := BitVec.ofNat 32 kept.length }] }] })) ∧
      ((s.trunk j).state = .disabled → t.trunk j = { s.trunk j with bundles := kept }) ∧
      (kept = (s.trunk j).bundles → kept = [] ∨ (s.trunk j).holdTime ≠ 0 →
        t.pool = s.pool ∧ t.queues = s.queues ∧ t.counters.queue = s.counters.queue) ∧
      (∀ w seq b, (s.link j.port).wire = some w → w.owner = .bundle seq →
        (s.trunk j).bundles.find? (fun x => x.seq == seq) = some b → b.retiring = true →
        kept = [] ∨ (s.trunk j).holdTime ≠ 0 →
        t.pool = (s.retire j b).1.pool ∧ t.queues = (s.retire j b).1.queues ∧
          t.counters.queue = (s.retire j b).1.counters.queue)

/-! ### Frames that arrive -/

/-- R4: the bytes of a field stand most significant first. R6: the check; the register starts at 0xFFFF, each byte is
taken most significant bit first with the generator 0x1021, and nothing is inverted at the end. R9: which bytes are a
valid frame; the six tests in their order, at any port, whatever its admin state; a frame that passes is counted and
dispatched. An aborted reception fails the first. (The model's: at a port whose link is DOWN nothing arrives, log 2.)
-/
def Obligations.ReceiveValidation : Prop :=
  (∀ (l : List Byte) (i : Nat), byteAt l i = l.getD i 0 ∧ halfAt l i = byteAt l i ++ byteAt l (i + 1) ∧
    wordAt l i = halfAt l i ++ halfAt l (i + 2)) ∧
  (∀ a b c d : Byte, be16 (a ++ b) = [a, b] ∧ be32 (a ++ b ++ c ++ d) = [a, b, c, d]) ∧
  (∀ n : Nat, byteOf n = BitVec.ofNat 8 n ∧ be16n n = be16 (BitVec.ofNat 16 n) ∧ be32n n = be32 (BitVec.ofNat 32 n)) ∧
  crc [] = 0xFFFF ∧
  (∀ (l : List Byte) (b : Byte), crc (l ++ [b]) =
    Nat.repeat (fun x : Half => if x.getLsbD 15 then (x <<< 1) ^^^ 0x1021 else x <<< 1) 8
      (crc l ^^^ (b.setWidth 16 <<< 8))) ∧
  (∀ (l : List Byte) (f : Frame), validate l = .ok f ↔
    (12 ≤ l.length ∧ l.length = 12 + (halfAt l 8).toNat ∧ (byteAt l 0 = 0x04 → 4 ≤ (halfAt l 8).toNat) ∧
      l.length ≤ 252 ∧ crc (l.take (l.length - 2)) = halfAt l (l.length - 2) ∧
      (byteAt l 0 = 0x01 ∨ byteAt l 0 = 0x03 ∨ byteAt l 0 = 0x04) ∧ halfAt l 4 ≠ 0x0000 ∧ halfAt l 4 ≠ 0xFFFF ∧
      f = { kind := byteAt l 0, tag := byteAt l 1, dst := halfAt l 2, src := halfAt l 4, seq := byteAt l 6,
            flags := byteAt l 7, payload := (l.drop 10).take (l.length - 12) })) ∧
  (∀ (p : Port) (l : List Byte) (s : State), s.resetLow = false → (s.link p).up = false →
    exec (.receptionAborted p) s = .next s ∧ exec (.frameArrival p l) s = .next s) ∧
  ∀ (p : Port) (l : List Byte) (s : State), s.resetLow = false → (s.link p).up = true →
    exec (.receptionAborted p) s = .next (s.countPort p .aborted 1) ∧
    exec (.frameArrival p l) s = .next (
      if l.length < 12 ∨ l.length ≠ 12 + (halfAt l 8).toNat ∨ (byteAt l 0 = 0x04 ∧ (halfAt l 8).toNat < 4) then
        s.countPort p .length 1
      else if 252 < l.length then s.countPort p .oversize 1
      else if crc (l.take (l.length - 2)) ≠ halfAt l (l.length - 2) then s.countPort p .badCheck 1
      else if byteAt l 0 ≠ 0x01 ∧ byteAt l 0 ≠ 0x03 ∧ byteAt l 0 ≠ 0x04 then s.countPort p .badKind 1
      else if halfAt l 4 = 0x0000 ∨ halfAt l 4 = 0xFFFF then s.countPort p .badSource 1
      else (s.countPort p .receiveGood 1).dispatch p
        { kind := byteAt l 0, tag := byteAt l 1, dst := halfAt l 2, src := halfAt l 4, seq := byteAt l 6,
          flags := byteAt l 7, payload := (l.drop 10).take (l.length - 12) })

/-- R10, R136, R137: a valid MGMT frame joins the request queue, or is dropped. That it waits there even when the unit is
READY, until the row of its kind takes it, is log 8. (The model's: log 4.) -/
def Obligations.ManagementFrameArrival : Prop :=
  ∀ (p : Port) (l : List Byte) (f : Frame) (s : State), s.resetLow = false → (s.link p).up = true →
    validate l = .ok f → f.kind = 0x04 →
    (f.dst ≠ s.ownAddress → ¬ (f.dst = 0xFFFF ∧ byteAt f.payload 2 = 0x01) →
      exec (.frameArrival p l) s = .next ((s.countPort p .receiveGood 1).countPort p .notLocal 1)) ∧
    (f.dst = s.ownAddress ∨ (f.dst = 0xFFFF ∧ byteAt f.payload 2 = 0x01) →
      (s.mgmt.requests.length < 4 →
        exec (.frameArrival p l) s = .next { s.countPort p .receiveGood 1 with
          mgmt := { s.mgmt with requests := s.mgmt.requests ++ [{ payload := f.payload, src := f.src, port := p }] } }) ∧
      (4 ≤ s.mgmt.requests.length → s.mgmt.overflow = true →
        exec (.frameArrival p l) s = .next ((s.countPort p .receiveGood 1).countMgmt .mgmtDropped 1)) ∧
      (4 ≤ s.mgmt.requests.length → s.mgmt.overflow = false →
        exec (.frameArrival p l) s = .next { (s.countPort p .receiveGood 1).countMgmt .mgmtDropped 1 with
          mgmt := { s.mgmt with overflow := true }
          events := { s.events with raised := s.events.raised ++
            [{ block := .managementUnit, events := [raiseOf .mgmtOverflow p.val f.src.toNat] }] } }))

/-- R11, R123: where a valid ACK is dropped, and that a malformed one is counted and nothing else. -/
def Obligations.AckDropped : Prop :=
  (∀ (k : EdgeId) (l : List Byte) (f : Frame) (s : State), s.resetLow = false → (s.link k.port).up = true →
    validate l = .ok f → f.kind = 0x03 →
    exec (.frameArrival k.port l) s = .next ((s.countPort k.port .receiveGood 1).countPort k.port
      (if s.edge.enabled.get k = false then .portDisabled else if f.dst ≠ s.ownAddress then .notLocal else .wrongPort) 1)) ∧
  (∀ (t : TrunkId) (l : List Byte) (f : Frame) (s : State), s.resetLow = false → (s.link t.port).up = true →
    validate l = .ok f → f.kind = 0x03 →
    ((s.trunk t).state = .disabled →
      exec (.frameArrival t.port l) s = .next ((s.countPort t.port .receiveGood 1).countPort t.port .portDisabled 1)) ∧
    ((s.trunk t).state ≠ .disabled → f.dst ≠ s.ownAddress →
      exec (.frameArrival t.port l) s = .next ((s.countPort t.port .receiveGood 1).countPort t.port .notLocal 1)) ∧
    ((s.trunk t).state ≠ .disabled → f.dst = s.ownAddress →
      f.payload.length = 0 ∨ byteAt f.payload 0 = 0 ∨ 8 < (byteAt f.payload 0).toNat ∨
        f.payload.length ≠ 1 + (byteAt f.payload 0).toNat →
      exec (.frameArrival t.port l) s = .next ((s.countPort t.port .receiveGood 1).countTrunk t .malformedAck 1)))

/-- R124: what one listed sequence of a well-formed ACK does, and that the list is taken in order, each sequence
against the window as the earlier ones have left it. (The model's: log 21.) -/
def Obligations.AckTakesListedSequences : Prop :=
  (∀ (s : State) (t : TrunkId) (seq : Byte), s.onWire t seq = true ↔
    ∃ w, (s.link t.port).wire = some w ∧ w.owner = .bundle seq) ∧
  (∀ (t : TrunkId) (s : State) (es : List Raise) (seq : Byte),
    ((∀ b ∈ (s.trunk t).bundles, b.seq ≠ seq) →
      State.ackOne t (s, es) seq = (s.countTrunk t .staleAck 1, es)) ∧
    (∀ b, (s.trunk t).bundles.find? (fun x => x.seq == seq) = some b →
      (b.retiring = true → State.ackOne t (s, es) seq = (s.countTrunk t .staleAck 1, es)) ∧
      (b.retiring = false → s.onWire t seq = true →
        State.ackOne t (s, es) seq = (s.modTrunk t fun k => { k with bundles := k.bundles.map fun x =>
          if x.seq = seq then { x with retiring := true } else x }, es)) ∧
      (b.retiring = false → s.onWire t seq = false →
        State.ackOne t (s, es) seq = ((s.retire t b).1, es ++ (s.retire t b).2)))) ∧
  (∀ (t : TrunkId) (l : List Byte) (f : Frame) (s : State), s.resetLow = false → (s.link t.port).up = true →
    validate l = .ok f → f.kind = 0x03 → (s.trunk t).state ≠ .disabled → f.dst = s.ownAddress →
    1 ≤ (byteAt f.payload 0).toNat → (byteAt f.payload 0).toNat ≤ 8 →
    f.payload.length = 1 + (byteAt f.payload 0).toNat →
    ∃ u, (f.payload.tail.foldl (State.ackOne t) (s.countPort t.port .receiveGood 1, [])) = u ∧
      exec (.frameArrival t.port l) s = .next (
        if (u.1.trunk t).bundles.length < (s.trunk t).bundles.length then
          ((u.1.raise .queueUnit u.2).windowEmptied t).trunkSelect t
        else (u.1.raise .queueUnit u.2).windowEmptied t))

/-- R62, R86, R91, R102, R125, R130: what the retirement and the abandonment of a bundle do (the event of R130 is
raised by the step that abandons). `u` is the state before the drain completion test. (The model's: log 4.) -/
def Obligations.BundleIsReleased : Prop :=
  ∀ (t : TrunkId) (s : State) (b : Bundle) (q : QueueId), q = b.batch.queue → ∃ u v : State,
    ((s.retire t b).1 = if u.drained q then u.modQueue q (fun x => { x with state := .off, drain := none }) else u) ∧
    ((s.retire t b).2 = if u.drained q then [raiseOf .queueOff q.val 1] else []) ∧
    ((s.abandon t b).1 = if v.drained q then v.modQueue q (fun x => { x with state := .off, drain := none }) else v) ∧
    ((s.abandon t b).2 = if v.drained q then [raiseOf .queueOff q.val 1] else []) ∧
    v = { u with counters := v.counters } ∧
    u = { s with pool := u.pool, queues := u.queues, trunks := u.trunks, events := u.events, counters := u.counters } ∧
    u.trunks = s.trunks.set t { s.trunk t with bundles := (s.trunk t).bundles.eraseP fun x => x.seq == b.seq } ∧
    u.queues = s.queues.set q { s.queue q with outstanding := (s.queue q).outstanding - 1 } ∧
    u.pool = { s.pool with
      freeCells := s.pool.freeCells + b.batch.cells
      freeDescriptors := s.pool.freeDescriptors + 1
      accounts := s.pool.accounts.set q.acct
        { s.account q.acct with inUse := (s.account q.acct).inUse - b.batch.cells }
      low := u.pool.low } ∧
    (∃ pool, (∀ a ∈ pool, a.block = .cellPool) ∧
      u.events = { s.events with raised := s.events.raised ++ pool }) ∧
    u.counters =
      ((s.countQueue q .framesDelivered b.batch.members.length).countQueue q .bundlesAcked 1).counters ∧
    v.counters =
      ((s.countQueue q .framesAbandoned b.batch.members.length).countTrunk t .bundlesAbandoned 1).counters ∧
    (∀ x : State, x.drained q = true ↔ (x.queue q).state = .halting ∧ (x.queue q).ready = [] ∧
      (x.queue q).outstanding = 0 ∧ (x.account q.acct).inUse = 0)

/-! ### Edge traffic -/

/-- R12, R26, R28 to R30: what a search of the directory finds, and which position is the lowest free one; a DATA
frame at an edge port is dropped PORT_DISABLED, or learned and then classified; what learning does in each case. (The
model's: log 4.) -/
def Obligations.EdgeDataIsLearned : Prop :=
  (∀ (e : Edge) (addr : Half),
     (∀ i d, e.lookup addr = some (i, d) → e.directory.get i = some d ∧ d.addr = addr) ∧
     (e.lookup addr = none → ∀ i d, e.directory.get i = some d → d.addr ≠ addr) ∧
     (∀ i, e.freePosition = some i → e.directory.get i = none ∧ ∀ j, j < i → (e.directory.get j).isSome = true) ∧
     (e.freePosition = none → ∀ i, (e.directory.get i).isSome = true)) ∧
  (∀ (k : EdgeId) (l : List Byte) (f : Frame) (s : State), s.resetLow = false → (s.link k.port).up = true →
    validate l = .ok f → f.kind = 0x01 →
    (s.edge.enabled.get k = false →
      exec (.frameArrival k.port l) s = .next ((s.countPort k.port .receiveGood 1).countPort k.port .portDisabled 1)) ∧
    (s.edge.enabled.get k = true →
      exec (.frameArrival k.port l) s = .next (((s.countPort k.port .receiveGood 1).learn k f.src).classify k f))) ∧
  (∀ (k : EdgeId) (src : Half) (s : State),
    (∀ i d, s.edge.lookup src = some (i, d) →
      (d.origin = .pinned → d.port = k → s.learn k src = s) ∧
      (d.origin = .pinned → d.port ≠ k → s.learn k src = s.countPort k.port .pinnedMismatch 1) ∧
      (d.origin = .learned → d.port = k → s.learn k src = { s with edge := { s.edge with
        directory := s.edge.directory.set i (some { d with lastSeen := s.edge.seconds }) } }) ∧
      (d.origin = .learned → d.port ≠ k → s.learn k src =
        { s with
          edge := { s.edge with directory := s.edge.directory.set i (some { d with port := k, lastSeen := s.edge.seconds }) }
          events := { s.events with raised := s.events.raised ++
            [{ block := .edgeUnit, events := [raiseOf .nodeMoved k.val src.toNat] }] } })) ∧
    (s.edge.lookup src = none → ∀ i, s.edge.freePosition = some i →
      s.learn k src = { s with edge := { s.edge with
        directory := s.edge.directory.set i (some
          { addr := src, port := k, origin := .learned, lastSeen := s.edge.seconds }) } }) ∧
    (s.edge.lookup src = none → s.edge.freePosition = none → s.edge.fullRefusal = true →
      s.learn k src = s.countPort k.port .learnRefused 1) ∧
    (s.edge.lookup src = none → s.edge.freePosition = none → s.edge.fullRefusal = false →
      s.learn k src = { s.countPort k.port .learnRefused 1 with
        edge := { s.edge with fullRefusal := true }
        events := { s.events with raised := s.events.raised ++
          [{ block := .edgeUnit, events := [raiseOf .directoryFull k.val src.toNat] }] } }))

/-- R41, R46: the banks and the hit counters by name. R43, R44, R45, R46: which entry decides a frame, what its action
does, and what becomes of a miss. -/
def Obligations.FirstMatchingEntryDecides : Prop :=
  (∀ x : Steer,
    (x.active = .a → x.activeBank = x.bankA ∧ x.shadowBank = x.bankB) ∧
    (x.active = .b → x.activeBank = x.bankB ∧ x.shadowBank = x.bankA) ∧ x.hits .a = x.hitsA ∧ x.hits .b = x.hitsB ∧
    ∀ h, x.setHits .a h = { x with hitsA := h } ∧ x.setHits .b h = { x with hitsB := h }) ∧
  (∀ (e : SteerEntry) (k : EdgeId) (src : Half) (tag : Byte),
    e.hit k src tag = true ↔ e.valid = true ∧ e.portSet.getLsbD k.val = true ∧
      src &&& e.srcMask = e.srcValue &&& e.srcMask ∧ tag &&& e.tagMask = e.tagValue &&& e.tagMask) ∧
  (∀ (k : EdgeId) (f : Frame) (s : State),
    (∀ i, (s.steer.activeBank.get i).hit k f.src f.tag = true →
      (∀ j, j < i → (s.steer.activeBank.get j).hit k f.src f.tag = false) → ∃ u : State,
      u = { s with
        steer := s.steer.setHits s.steer.active
          ((s.steer.hits s.steer.active).set i (satAdd ((s.steer.hits s.steer.active).get i) 1)) } ∧
      ((s.steer.activeBank.get i).action = .toQueue →
        s.classify k f = u.enrol (s.steer.activeBank.get i).queue
          { src := f.src, tag := f.tag, nodeSeq := f.seq, port := k, payload := f.payload }) ∧
      ((s.steer.activeBank.get i).action = .discard → s.classify k f = u.countPort k.port .steerDiscard 1)) ∧
    ((∀ i, (s.steer.activeBank.get i).hit k f.src f.tag = false) →
      (s.steer.defaultAction = .toQueue →
        s.classify k f = (s.countPort k.port .steerMiss 1).enrol s.steer.defaultQueue
          { src := f.src, tag := f.tag, nodeSeq := f.seq, port := k, payload := f.payload }) ∧
      (s.steer.defaultAction = .discard →
        s.classify k f = (s.countPort k.port .steerMiss 1).countPort k.port .steerDiscard 1)))

/-- R60: the account of each queue and of the return path; the unused reserve and the sums. R59, R67, R78: the cells
of a member, of a batch and of a return frame, and the byte size of a batch. R104: a batch closed by an admission
gives the arbiter of the queue's trunk port a decision. R61, R77, R78: a member steered to a queue, refused or
admitted; `fits` says that the open batch has room for it. -/
def Obligations.AdmissionToQueue : Prop :=
  (∀ q : QueueId, q.acct.val = q.val) ∧ retAcct.val = 16 ∧
  (∀ a : Account, a.unused = a.reserve - a.inUse) ∧
  (∀ p : Pool, p.unusedSum = ((List.finRange 17).map fun a => (p.accounts.get a).reserve - (p.accounts.get a).inUse).sum ∧
    p.reserveSum = ((List.finRange 17).map fun a => (p.accounts.get a).reserve).sum) ∧
  (∀ m : Member, m.cells = (6 + m.payload.length + 63) / 64) ∧
  (∀ b : Batch, b.cells = (b.members.map fun m => (6 + m.payload.length + 63) / 64).sum ∧
    b.byteSize = (b.members.map fun m => 6 + m.payload.length).sum) ∧
  (∀ f : Frame, returnCells f = (10 + f.payload.length + 63) / 64) ∧
  (∀ (q : QueueId) (s : State) (before : Nat),
    (before < (s.queue q).ready.length → s.offerClosed q before = s.trunkSelect (s.queue q).trunk) ∧
    ((s.queue q).ready.length ≤ before → s.offerClosed q before = s)) ∧
  ∀ (q : QueueId) (m : Member) (s : State) (fits : Bool),
    (fits = true ↔ ∃ b, (s.queue q).openBatch = some b ∧ b.byteSize + (6 + m.payload.length) ≤ b.threshold) →
    ((s.queue q).state ≠ .active → s.enrol q m = s.countQueue q .queueNotActive 1) ∧
    ((s.queue q).state = .active →
      ((s.account q.acct).cap < (s.account q.acct).inUse + m.cells ∨
          (s.account q.acct).unused + s.pool.freeCells < m.cells + s.pool.unusedSum →
        s.enrol q m = s.countQueue q .noCells 1) ∧
      ((s.account q.acct).inUse + m.cells ≤ (s.account q.acct).cap →
        m.cells + s.pool.unusedSum ≤ (s.account q.acct).unused + s.pool.freeCells →
        (fits = false → s.pool.freeDescriptors = 0 → s.enrol q m = s.countQueue q .noBatch 1) ∧
        (fits = true ∨ s.pool.freeDescriptors ≠ 0 → ∃ u : State,
          s.enrol q m = (u.testLimits q).offerClosed q (s.queue q).ready.length ∧
          u = { s with pool := u.pool, queues := u.queues, events := u.events, counters := u.counters } ∧
          u.pool = (s.grantCells q.acct m.cells (!fits)).pool ∧ u.events = (s.grantCells q.acct m.cells (!fits)).events ∧
          u.counters = (if fits = false ∧ (s.queue q).openBatch.isSome = true then
              (s.countQueue q .admitted 1).countQueue q .closedSize 1
            else s.countQueue q .admitted 1).counters ∧
          (∀ i, i ≠ q → u.queue i = s.queue i) ∧
          (fits = true → ∀ b, (s.queue q).openBatch = some b →
            u.queue q = { s.queue q with openBatch := some { b with members := b.members ++ [m] } }) ∧
          (fits = false → u.queue q = { s.queue q with
            ready := (s.queue q).ready ++
              ((s.queue q).openBatch.toList.map fun b => { b with closeReason := some .size, ageDeadline := none })
            openBatch := some
              { queue := q, members := [m], threshold := (s.profile (s.queue q).profile).threshold,
                frameLimit := (s.profile (s.queue q).profile).frameLimit, openTime := s.now,
                ageDeadline := if (s.profile (s.queue q).profile).ageLimit = 0 then none
                  else some (s.now + BitVec.ofNat 32 (s.profile (s.queue q).profile).ageLimit)
                closeReason := none } }))))

/-- R61, R62, R69: what a granted request takes, what a release gives back, and the comparison with low-water after
each. (A release of no cell is not compared: log 28.) (The model's: log 4.) -/
def Obligations.FreeCellsAreMonitored : Prop :=
  ∀ (s u : State) (a : AcctId) (n d : Nat) (descriptor : Bool) (free : Nat) (account : Account) (descriptors : Nat),
    (u = s.grantCells a n descriptor ∧ free = s.pool.freeCells - n ∧
        account = { s.account a with inUse := (s.account a).inUse + n } ∧
        descriptors = s.pool.freeDescriptors - (if descriptor then 1 else 0)) ∨
      (u = s.release a n d ∧ n ≠ 0 ∧ free = s.pool.freeCells + n ∧
        account = { s.account a with inUse := (s.account a).inUse - n } ∧ descriptors = s.pool.freeDescriptors + d) →
    u = { s with
      pool := { s.pool with
        freeCells := free
        accounts := s.pool.accounts.set a account
        freeDescriptors := descriptors
        low := u.pool.low }
      events := u.events } ∧
    (s.pool.low = false → s.pool.lowWater ≤ free → u.pool.low = false ∧ u.events = s.events) ∧
    (s.pool.low = false → free < s.pool.lowWater → u.pool.low = true ∧ u.events = { s.events with
      raised := s.events.raised ++ [{ block := .cellPool, events := [raiseOf .poolLow 0 free] }] }) ∧
    (s.pool.low = true → free < s.pool.lowWater + 64 → u.pool.low = true ∧ u.events = s.events) ∧
    (s.pool.low = true → s.pool.lowWater + 64 ≤ free → u.pool.low = false ∧ u.events = { s.events with
      raised := s.events.raised ++ [{ block := .cellPool, events := [raiseOf .poolRecovered 0 free] }] })

/-- R167: a deadline is reached at its own value, and not while it is ahead by up to 2^31; that it counts as reached
for the half circle after it is log 3. R79 to R81: the tests of the open batch, what closing does, and the age
deadline's expiry. Without an open batch, or with one that has no age deadline, an expiry does nothing (log 2). -/
def Obligations.OpenBatchCloses : Prop :=
  CloseReason.size.counter = .closedSize ∧ CloseReason.count.counter = .closedCount ∧
  CloseReason.age.counter = .closedAge ∧ CloseReason.flush.counter = .closedFlush ∧
  CloseReason.halt.counter = .closedHalt ∧
  (∀ (q : QueueId) (s : State), s.resetLow = false →
    ((s.queue q).openBatch = none ∨ ∃ b, (s.queue q).openBatch = some b ∧ b.ageDeadline = none) →
    exec (.ageDeadlineExpiry q) s = .next s) ∧
  (∀ d : Word, reached d d = true ∧
    (∀ ahead : Nat, 1 ≤ ahead → ahead ≤ 2147483648 → reached (d - BitVec.ofNat 32 ahead) d = false) ∧
    (∀ late : Nat, late < 2147483648 → reached (d + BitVec.ofNat 32 late) d = true)) ∧
  ∀ (q : QueueId) (s : State) (b : Batch), (s.queue q).openBatch = some b →
    (∀ r, s.closeOpen q r = (s.modQueue q fun u => { u with
      openBatch := none, ready := u.ready ++ [{ b with closeReason := some r, ageDeadline := none }] }).countQueue q
        r.counter 1) ∧
    (b.byteSize = b.threshold → s.testLimits q = s.closeOpen q .size) ∧
    (b.byteSize ≠ b.threshold → b.members.length = b.frameLimit → s.testLimits q = s.closeOpen q .count) ∧
    (b.byteSize ≠ b.threshold → b.members.length ≠ b.frameLimit → s.testLimits q = s) ∧
    (s.resetLow = false → ∀ d, b.ageDeadline = some d →
      (reached s.now d = true →
        exec (.ageDeadlineExpiry q) s = .next ((s.closeOpen q .age).trunkSelect (s.queue q).trunk)) ∧
      (reached s.now d = false → exec (.ageDeadlineExpiry q) s = .next s))

/-! ### The return path -/

/-- R12, R36, R37: a DATA frame at a trunk port. -/
def Obligations.TrunkDataIsReturned : Prop :=
  ∀ (t : TrunkId) (l : List Byte) (f : Frame) (s u : State), s.resetLow = false → (s.link t.port).up = true →
    validate l = .ok f → f.kind = 0x01 → u = s.countPort t.port .receiveGood 1 →
    ((s.trunk t).enabled = false → exec (.frameArrival t.port l) s = .next (u.countPort t.port .portDisabled 1)) ∧
    ((s.trunk t).enabled = true →
      (f.dst = s.ownAddress → exec (.frameArrival t.port l) s = .next (u.countPort t.port .notDeliverable 1)) ∧
      (f.dst ≠ s.ownAddress → f.dst ≠ 0xFFFF →
        (s.edge.lookup f.dst = none →
          exec (.frameArrival t.port l) s = .next (u.countPort t.port .notDeliverable 1)) ∧
        (∀ i d, s.edge.lookup f.dst = some (i, d) →
          ¬ (s.edge.enabled.get d.port = true ∧ (s.link d.port.port).up = true) →
          exec (.frameArrival t.port l) s = .next (u.countPort t.port .notDeliverable 1)) ∧
        (∀ i d, s.edge.lookup f.dst = some (i, d) →
          s.edge.enabled.get d.port = true → (s.link d.port.port).up = true →
          exec (.frameArrival t.port l) s = .next (State.returnAdmit t f u d.port))) ∧
      (f.dst ≠ s.ownAddress → f.dst = 0xFFFF →
        ((∀ k : EdgeId, ¬ (s.edge.enabled.get k = true ∧ (s.link k.port).up = true)) →
          exec (.frameArrival t.port l) s = .next (u.countPort t.port .notDeliverable 1)) ∧
        ((∃ k : EdgeId, s.edge.enabled.get k = true ∧ (s.link k.port).up = true) →
          exec (.frameArrival t.port l) s = .next
            ((([0, 1, 2, 3, 4, 5, 6, 7] : List EdgeId).filter fun (k : EdgeId) =>
              s.edge.enabled.get k && (s.link k.port).up).foldl
              (State.returnAdmit t f) u))))

/-- R38: the admission of a return frame to a return list. -/
def Obligations.ReturnFrameAdmission : Prop :=
  ∀ (t : TrunkId) (f : Frame) (s : State) (k : EdgeId) (n : Nat), n = (10 + f.payload.length + 63) / 64 →
    (32 ≤ (s.edge.returns.get k).length → State.returnAdmit t f s k = s.countPort t.port .returnFull 1) ∧
    ((s.edge.returns.get k).length < 32 →
      ((s.account retAcct).cap < (s.account retAcct).inUse + n ∨
          (s.account retAcct).unused + s.pool.freeCells < n + s.pool.unusedSum →
        State.returnAdmit t f s k = s.countPort t.port .noCells 1) ∧
      ((s.account retAcct).inUse + n ≤ (s.account retAcct).cap →
        n + s.pool.unusedSum ≤ (s.account retAcct).unused + s.pool.freeCells → ∃ u : State,
        State.returnAdmit t f s k = u.edgeSelect k ∧
        u = { s with pool := u.pool, edge := u.edge, events := u.events } ∧
        u.edge = { s.edge with returns := s.edge.returns.set k (s.edge.returns.get k ++ [f]) } ∧
        u.pool = (s.grantCells retAcct n false).pool ∧ u.events = (s.grantCells retAcct n false).events))

/-! ### Transmitters -/

/-- R107, R117, R119: the window base and the window span; the bundles stand oldest first. R7, R8, R39, R105: what each
selector sends next. -/
def Obligations.SelectorsChoice : Prop :=
  (∀ k : EdgeId, k.port.val = k.val) ∧ (∀ t : TrunkId, t.port.val = 8 + t.val) ∧
  (∀ k : Trunk,
    (∀ before b after, k.bundles = before ++ b :: after → (∀ x ∈ before, x.retiring = true) → b.retiring = false →
      k.base = b.seq) ∧
    ((∀ b ∈ k.bundles, b.retiring = true) → k.base = k.nextSeq) ∧
    k.span = (k.nextSeq - k.base).toNat) ∧
  (∀ (k : EdgeId) (s : State), s.select k.port = s.edgeSelect k) ∧
  (∀ (t : TrunkId) (s : State), s.select t.port = s.trunkSelect t) ∧
  (∀ (s : State) (p : Port) (f : Frame) (o : WireOwner),
    s.start p f o = s.modLink p fun l =>
      { l with wire := some { frame := { f with seq := l.txCount }, owner := o }, txCount := l.txCount + 1 }) ∧
  (∀ (k : EdgeId) (s : State),
    ((s.link k.port).up = false ∨ (s.link k.port).wire ≠ none → s.edgeSelect k = s) ∧
    ((s.link k.port).up = true → (s.link k.port).wire = none →
      (∀ c rest, (s.link k.port).control = c :: rest → s.edgeSelect k = s.start k.port c.frame .control) ∧
      ((s.link k.port).control = [] →
        (∀ f rest, s.edge.returns.get k = f :: rest → s.edgeSelect k = s.start k.port f .returnFrame) ∧
        (s.edge.returns.get k = [] → s.edgeSelect k = s)))) ∧
  (∀ (t : TrunkId) (s : State),
    ((s.link t.port).up = false ∨ (s.link t.port).wire ≠ none → s.trunkSelect t = s) ∧
    ((s.link t.port).up = true → (s.link t.port).wire = none →
      (∀ c rest, (s.link t.port).control = c :: rest → s.trunkSelect t = s.start t.port c.frame .control) ∧
      ((s.link t.port).control = [] →
        ((s.trunk t).state ≠ .running → (s.trunk t).state ≠ .stopping → s.trunkSelect t = s) ∧
        ((s.trunk t).state = .running ∨ (s.trunk t).state = .stopping →
          (∀ b, (s.trunk t).bundles.find? (fun x => !x.retiring && x.due.isSome) = some b →
            s.trunkSelect t = s.resend t b) ∧
          ((∀ b ∈ (s.trunk t).bundles, b.retiring = true ∨ b.due = none) →
            ((s.trunk t).state = .stopping ∨ (s.trunk t).windowSize ≤ (s.trunk t).span ∨ s.choose t = none →
              s.trunkSelect t = s) ∧
            (∀ q level, (s.trunk t).state = .running → (s.trunk t).span < (s.trunk t).windowSize →
              s.choose t = some (q, level) → s.trunkSelect t = s.grant t q level))))))

/-- R16, R106, R110 to R112: a grant and a resend, with everything they change, and the frame that carries a bundle.
The codes of the close reasons (R16). -/
def Obligations.GrantAndResend : Prop :=
  CloseReason.size.code = 1 ∧ CloseReason.count.code = 2 ∧ CloseReason.age.code = 3 ∧ CloseReason.flush.code = 4 ∧
  CloseReason.halt.code = 5 ∧
  (∀ (s : State) (t : TrunkId) (q : QueueId) (level : Option (Fin 4)) (b : Batch) (rest : List Batch),
    (s.queue q).ready = b :: rest → ∃ (u : State) (x : Bundle),
      s.grant t q level = u.start t.port (bundleFrame u t x false) (.bundle (s.trunk t).nextSeq) ∧
      x = { batch := b, seq := (s.trunk t).nextSeq, retry := 0, due := none, retryDeadline := none, retiring := false } ∧
      u = ({ s with queues := s.queues.set q { s.queue q with ready := rest, outstanding := (s.queue q).outstanding + 1 }
                    trunks := s.trunks.set t { s.trunk t with
                      bundles := (s.trunk t).bundles ++ [x]
                      nextSeq := (s.trunk t).nextSeq + 1
                      rrPointer := if level = none then q else (s.trunk t).rrPointer
                      levelPointers :=
                        match level with
                        | none => (s.trunk t).levelPointers
                        | some l => (s.trunk t).levelPointers.set l q } }).countTrunk t .bundlesSent 1) ∧
  (∀ (s : State) (t : TrunkId) (b : Bundle), ∃ (u : State) (x : Bundle),
      s.resend t b = u.start t.port (bundleFrame u t x true) (.bundle b.seq) ∧
      x = { b with due := none, retry := if b.due = some .counted then min (b.retry + 1) 15 else b.retry } ∧
      u = (s.modTrunk t fun k => { k with bundles := k.bundles.map fun y =>
        if y.seq = b.seq then
          { y with due := none, retry := if y.due = some .counted then min (y.retry + 1) 15 else y.retry }
        else y }).countTrunk t .retransmissions 1) ∧
  (∀ (s : State) (t : TrunkId) (b : Bundle) (retx : Bool) (r : CloseReason), b.batch.closeReason = some r →
     bundleFrame s t b retx =
       { kind := 0x02, tag := 0, dst := (s.trunk t).collector, src := s.ownAddress, seq := 0,
         flags := if retx then 1 else 0
         payload := [b.seq, (s.trunk t).base, byteOf b.batch.queue.val, byteOf b.batch.members.length, r.code,
                     byteOf b.retry] ++ be16n (b.batch.members.map fun m => 6 + m.payload.length).sum ++
           b.batch.members.flatMap fun m =>
             be16 m.src ++ [m.tag, m.nodeSeq, byteOf m.payload.length, byteOf m.port.val] ++ m.payload })

/-- R108, R109: the queue chosen in each arbitration mode. -/
def Obligations.ArbitrationChoice : Prop :=
  ∀ (t : TrunkId) (s : State),
    (∀ q, s.candidate t q = true ↔ (s.queue q).trunk = t ∧ (s.queue q).state ≠ .off ∧ (s.queue q).ready ≠ []) ∧
    ((∀ q, s.candidate t q = false) → s.choose t = none) ∧
    (∀ q, s.candidate t q = true → (s.trunk t).priorityMode = false →
      ∃ r, s.choose t = some (r, none) ∧ s.candidate t r = true ∧
        ∀ q', s.candidate t q' = true →
          (r - (s.trunk t).rrPointer - 1).val ≤ (q' - (s.trunk t).rrPointer - 1).val) ∧
    (∀ q, s.candidate t q = true → (s.trunk t).priorityMode = true →
      ∃ r, s.choose t = some (r, some (s.queue r).priority) ∧ s.candidate t r = true ∧
        ∀ q', s.candidate t q' = true → (s.queue q').priority ≤ (s.queue r).priority ∧
          ((s.queue q').priority = (s.queue r).priority →
            (r - (s.trunk t).levelPointers.get (s.queue r).priority - 1).val ≤
              (q' - (s.trunk t).levelPointers.get (s.queue r).priority - 1).val))

/-- R8, R14, R39, R113, R121: the end of a transmission, by the owner of the frame. (The model's: logs 2, 4, 7, 9, 10
and 21.) -/
def Obligations.TransmissionEnds : Prop :=
  (∀ (p : Port) (first : Bool) (s : State), s.resetLow = false → (s.link p).wire = none →
    exec (.transmissionEnd p first) s = .next s) ∧
  (∀ (p : Port) (first : Bool) (s : State) (w : OnWire), s.resetLow = false → (s.link p).wire = some w →
    w.owner = .control → ∃ u : State,
    exec (.transmissionEnd p first) s = .next
      ((if first then (u.reoffer p).opportunity p else (u.opportunity p).reoffer p).select p) ∧
    u = { s with links := u.links, mgmt := u.mgmt, counters := u.counters } ∧
    u.link p = { s.link p with wire := none, control := (s.link p).control.tail } ∧
    (∀ q, q ≠ p → u.link q = s.link q) ∧
    u.portCounter p .framesSent = satAdd (s.portCounter p .framesSent) 1 ∧
    (∀ j : TrunkId, u.trunkCounter j .controlSent =
      satAdd (s.trunkCounter j .controlSent) (if j.port = p then 1 else 0)) ∧
    (∀ q c, q ≠ p ∨ c ≠ .framesSent → u.portCounter q c = s.portCounter q c) ∧
    (∀ j c, c ≠ .controlSent → u.trunkCounter j c = s.trunkCounter j c) ∧
    u.counters.queue = s.counters.queue ∧ u.counters.mgmt = s.counters.mgmt ∧
    u.mgmt = { s.mgmt with mode :=
      if s.mgmt.mode = .restartWait ∧ (s.link p).control.head?.map ControlFrame.restart = some true then .restartDue
      else s.mgmt.mode }) ∧
  (∀ (k : EdgeId) (first : Bool) (s : State) (w : OnWire) (f : Frame) (rest : List Frame), s.resetLow = false →
    (s.link k.port).wire = some w → w.owner = .returnFrame → s.edge.returns.get k = f :: rest → ∃ u : State,
    exec (.transmissionEnd k.port first) s = .next (u.edgeSelect k) ∧
    u = { s with links := u.links, edge := u.edge, pool := u.pool, events := u.events, counters := u.counters } ∧
    u.link k.port = { s.link k.port with wire := none } ∧ (∀ q, q ≠ k.port → u.link q = s.link q) ∧
    u.edge = { s.edge with returns := s.edge.returns.set k rest } ∧
    u.pool = (s.release retAcct (returnCells f) 0).pool ∧ u.events = (s.release retAcct (returnCells f) 0).events ∧
    u.counters = (s.countPort k.port .framesSent 1).counters) ∧
  (∀ (t : TrunkId) (first : Bool) (s : State) (w : OnWire) (seq : Byte) (b : Bundle), s.resetLow = false →
    (s.link t.port).wire = some w → w.owner = .bundle seq →
    (s.trunk t).bundles.find? (fun x => x.seq == seq) = some b → ∃ u : State,
    u = (s.countPort t.port .framesSent 1).modLink t.port (fun l => { l with wire := none }) ∧
    (b.retiring = false → exec (.transmissionEnd t.port first) s = .next
      ((u.modTrunk t fun k => { k with bundles := k.bundles.map fun x =>
        if x.seq = seq then { x with retryDeadline := some (s.now + BitVec.ofNat 32 (s.trunk t).retryInterval) }
        else x }).trunkSelect t)) ∧
    (b.retiring = true → exec (.transmissionEnd t.port first) s = .next
      ((((u.retire t b).1.raise .queueUnit (u.retire t b).2).windowEmptied t).trunkSelect t)))

/-- R99: what an emptied window does to the trunk state. -/
def Obligations.EmptiedWindow : Prop :=
  ∀ (s : State) (t : TrunkId),
    ((s.trunk t).bundles ≠ [] → s.windowEmptied t = s) ∧
    ((s.trunk t).bundles = [] →
      ((s.trunk t).state = .stopping → s.windowEmptied t = s.modTrunk t fun k => { k with state := .disabled }) ∧
      ((s.trunk t).state = .holding → s.windowEmptied t = s.modTrunk t fun k =>
        { k with hold := none, stopRequested := false, state := if k.stopRequested then .disabled else .waiting }) ∧
      ((s.trunk t).state ≠ .stopping → (s.trunk t).state ≠ .holding → s.windowEmptied t = s))

/-! ### Deadlines (when one counts as reached: log 3) -/

/-- R27, R31: the one-second deadline and the aging scan; the second count and the ages are modulo 2^32. (The model's:
logs 3 and 18.) -/
def Obligations.DirectorySecondPasses : Prop :=
  ∀ s : State, s.resetLow = false →
    (reached s.now s.edge.secondDeadline = false → exec .directorySecondExpiry s = .next s) ∧
    (reached s.now s.edge.secondDeadline = true → ∃ t : State, exec .directorySecondExpiry s = .next t ∧
      t = { s with edge := { s.edge with
        seconds := s.edge.seconds + 1, secondDeadline := s.edge.secondDeadline + 1000000,
        directory := t.edge.directory, fullRefusal := t.edge.fullRefusal } } ∧
      (∀ i, t.edge.directory.get i =
        match s.edge.directory.get i with
        | none => none
        | some d =>
          if d.origin = .learned ∧ s.edge.directoryAge ≠ 0 ∧
              s.edge.directoryAge < (s.edge.seconds + 1 - d.lastSeen).toNat then none
          else some d) ∧
      (t.edge.fullRefusal = true ↔ s.edge.fullRefusal = true ∧
        ¬ ((∀ i, (s.edge.directory.get i).isSome = true) ∧ ∃ i, t.edge.directory.get i = none)))

/-- R87, R88: a drain that ends by force; `sent` are the queue's bundles in the window of its trunk port `j`, `gone`
is what is abandoned. (The model's: logs 2, 3 and 4.) -/
def Obligations.DrainDeadlineExpires : Prop :=
  ∀ (q : QueueId) (s : State) (j : TrunkId) (sent : List Bundle) (gone : List Batch), s.resetLow = false →
    (s.queue q).trunk = j → sent = (s.trunk j).bundles.filter (fun b => b.batch.queue == q) →
    gone = (s.queue q).ready ++ sent.map Bundle.batch →
    ((s.queue q).state ≠ .halting ∨ (s.queue q).drain = none → exec (.drainDeadlineExpiry q) s = .next s) ∧
    (∀ d, (s.queue q).drain = some d → reached s.now d = false → exec (.drainDeadlineExpiry q) s = .next s) ∧
    (∀ d, (s.queue q).state = .halting → (s.queue q).drain = some d → reached s.now d = true → ∃ u : State,
      exec (.drainDeadlineExpiry q) s = .next (if sent = [] then u else (u.windowEmptied j).trunkSelect j) ∧
      u = { s with links := u.links, pool := u.pool, queues := u.queues, trunks := u.trunks, events := u.events,
                   counters := u.counters } ∧
      u.queue q = { s.queue q with state := .off, drain := none, ready := [], outstanding := 0 } ∧
      (∀ i, i ≠ q → u.queue i = s.queue i) ∧
      u.trunk j = { s.trunk j with bundles := (s.trunk j).bundles.filter fun b => b.batch.queue != q } ∧
      (∀ i, i ≠ j → u.trunk i = s.trunk i) ∧
      u.pool = { s.pool with
        freeCells := s.pool.freeCells + (gone.map Batch.cells).sum
        freeDescriptors := s.pool.freeDescriptors + gone.length
        accounts := s.pool.accounts.set q.acct
          { s.account q.acct with inUse := (s.account q.acct).inUse - (gone.map Batch.cells).sum }
        low := u.pool.low } ∧
      u.counters = { s.counters with
        queue := (s.countQueue q .framesAbandoned (gone.map fun b => b.members.length).sum).counters.queue
        trunk := u.counters.trunk } ∧
      ((∃ b ∈ sent, s.onWire j b.seq = true) → u.link j.port = { s.link j.port with wire := none } ∧
        (∀ p, p ≠ j.port → u.link p = s.link p) ∧
        u.counters.trunk = (s.countTrunk j .transmitAborted 1).counters.trunk) ∧
      ((∀ b ∈ sent, s.onWire j b.seq = false) → u.links = s.links ∧ u.counters.trunk = s.counters.trunk) ∧
      (∃ pool, (∀ a ∈ pool, a.block = .cellPool) ∧ u.events = { s.events with
        raised := s.events.raised ++ pool ++ [{ block := .queueUnit, events := [raiseOf .queueOff q.val 2] }] }))

/-- R102: a hold that expires; every bundle is abandoned and the port leaves HOLDING. (The model's: logs 2, 3, 4 and
21.) -/
def Obligations.HoldDeadlineExpires : Prop :=
  (∀ (k : EdgeId) (s : State), s.resetLow = false → exec (.holdDeadlineExpiry k.port) s = .next s) ∧
  ∀ (j : TrunkId) (s : State), s.resetLow = false →
    ((s.trunk j).state ≠ .holding ∨ (s.trunk j).hold = none → exec (.holdDeadlineExpiry j.port) s = .next s) ∧
    (∀ d, (s.trunk j).hold = some d → reached s.now d = false → exec (.holdDeadlineExpiry j.port) s = .next s) ∧
    (∀ d, (s.trunk j).state = .holding → (s.trunk j).hold = some d → reached s.now d = true → ∃ t : State,
      exec (.holdDeadlineExpiry j.port) s = .next t ∧
      t = { s with pool := t.pool, queues := t.queues, trunks := t.trunks, events := t.events, counters := t.counters } ∧
      t.trunk j = { s.trunk j with
        bundles := [], hold := none, stopRequested := false,
        state := if (s.trunk j).stopRequested then .disabled else .waiting } ∧
      (∀ i, i ≠ j → t.trunk i = s.trunk i) ∧
      (∀ q, (t.queue q).outstanding = (s.queue q).outstanding - ((s.trunk j).bundlesOf q).length) ∧
      (∀ q, t.queueCounter q .framesAbandoned = satAdd (s.queueCounter q .framesAbandoned)
        (((s.trunk j).bundlesOf q).map fun b => b.batch.members.length).sum) ∧
      t.trunkCounter j .bundlesAbandoned =
        satAdd (s.trunkCounter j .bundlesAbandoned) (s.trunk j).bundles.length ∧
      t.pool.freeDescriptors = s.pool.freeDescriptors + (s.trunk j).bundles.length ∧
      t.pool.freeCells = s.pool.freeCells + ((s.trunk j).bundles.map fun b => b.batch.cells).sum ∧
      (∃ pool offs, (∀ a ∈ pool, a.block = .cellPool) ∧ (∀ e ∈ offs, e.kind = .queueOff ∧ e.detail = 1) ∧
        t.events = { s.events with raised := s.events.raised ++ pool ++ [{ block := .trunkUnit j, events :=
          offs ++ [raiseOf .holdExpired j.port.val (s.trunk j).bundles.length] }] }))

/-- R127, R128, R130: the retry deadline of a waiting bundle; the drain completion stands behind BUNDLE_ABANDONED in one
arrival. (The model's: logs 2, 3, 4 and 21.) -/
def Obligations.RetryDeadlineExpires : Prop :=
  (∀ (k : EdgeId) (seq : Byte) (s : State), s.resetLow = false → exec (.retryDeadlineExpiry k.port seq) s = .next s) ∧
  ∀ (t : TrunkId) (seq : Byte) (s : State), s.resetLow = false →
    ((∀ b ∈ (s.trunk t).bundles, b.seq ≠ seq) → exec (.retryDeadlineExpiry t.port seq) s = .next s) ∧
    (∀ b, (s.trunk t).bundles.find? (fun x => x.seq == seq) = some b →
      (b.retiring = true ∨ b.retryDeadline = none → exec (.retryDeadlineExpiry t.port seq) s = .next s) ∧
      (∀ d, b.retiring = false → b.retryDeadline = some d →
        (reached s.now d = false → exec (.retryDeadlineExpiry t.port seq) s = .next s) ∧
        (reached s.now d = true → (s.trunk t).retryLimit = 15 ∨ b.retry < (s.trunk t).retryLimit →
          exec (.retryDeadlineExpiry t.port seq) s = .next
            ((s.modTrunk t fun k => { k with bundles := k.bundles.map fun x =>
              if x.seq = seq then { x with due := some .counted, retryDeadline := none } else x }).trunkSelect t)) ∧
        (reached s.now d = true → (s.trunk t).retryLimit ≠ 15 → (s.trunk t).retryLimit ≤ b.retry →
          exec (.retryDeadlineExpiry t.port seq) s = .next
            ((((s.abandon t b).1.raise (.deliveryWindow t)
              ({ kind := .bundleAbandoned, subject := byteOf t.port.val,
                 detail := BitVec.ofNat 32 (b.batch.queue.val * 256 + seq.toNat) } :: (s.abandon t b).2)).windowEmptied
              t).trunkSelect t))))

/-- R148: the lease runs out. R143, R152: the response wait runs out. (The model's: logs 3, 4 and 7.) -/
def Obligations.LeaseAndResponseWaitExpire : Prop :=
  (∀ s : State, s.resetLow = false → s.mgmt.owner = none → exec .leaseDeadlineExpiry s = .next s) ∧
  (∀ (s : State) (o : Owner), s.resetLow = false → s.mgmt.owner = some o →
    (reached s.now o.lease = false → exec .leaseDeadlineExpiry s = .next s) ∧
    (reached s.now o.lease = true → exec .leaseDeadlineExpiry s = .next { s with
      mgmt := { s.mgmt with owner := none }
      events := { s.events with raised := s.events.raised ++ [{ block := .managementUnit, events :=
        [{ kind := .ownerLost, subject := byteOf o.port.val, detail := BitVec.ofNat 32 o.addr.toNat }] }] } })) ∧
  (∀ s : State, s.resetLow = false → (∀ c p d, s.mgmt.mode ≠ .responseWait c p d) →
    exec .responseWaitExpiry s = .next s) ∧
  (∀ (s : State) (c : ControlFrame) (p : Port) (d : Word), s.resetLow = false → s.mgmt.mode = .responseWait c p d →
    (reached s.now d = false → exec .responseWaitExpiry s = .next s) ∧
    (reached s.now d = true → c.restart = false → exec .responseWaitExpiry s =
      .next ({ s with mgmt := { s.mgmt with mode := .ready } }.countMgmt .responseLost 1)) ∧
    (reached s.now d = true → c.restart = true → exec .responseWaitExpiry s =
      .next { s with mgmt := { s.mgmt with mode := .restartDue } }))

/-- R178: the repeat deadline of a slot. (The model's: log 3.) -/
def Obligations.RepeatDeadlineExpires : Prop :=
  ∀ (i : SlotId) (s : State), s.resetLow = false →
    ((s.slot i).inUse = false ∨ (s.slot i).repeatDeadline = none → exec (.repeatDeadlineExpiry i) s = .next s) ∧
    (∀ d, (s.slot i).inUse = true → (s.slot i).repeatDeadline = some d →
      (reached s.now d = false → exec (.repeatDeadlineExpiry i) s = .next s) ∧
      (reached s.now d = true → exec (.repeatDeadlineExpiry i) s = .next
        ((s.modSlot i fun x => { x with
          owed := x.owed ||| x.pending, pending := 0, recurred := 0, repeatDeadline := none }).opportunity
            (s.slot i).port)))

/-! ### The part's own steps -/

/-- R54, R55: one sync step. (The model's: log 4.) -/
def Obligations.SyncStepCopiesOneEntry : Prop :=
  (∀ s : State, s.resetLow = false → s.steer.syncing = false → exec .syncStep s = .next s) ∧
  (∀ (s : State) (i : EntryId), s.resetLow = false → s.steer.syncing = true → s.steer.nextIndex = i.val → ∃ t : State,
    exec .syncStep s = .next t ∧ t = { s with steer := t.steer, events := t.events } ∧
    t.steer = { s.steer with bankA := t.steer.bankA, bankB := t.steer.bankB, nextIndex := i.val + 1,
                             syncing := decide (i.val ≠ 255) } ∧
    t.steer.activeBank = s.steer.activeBank ∧
    (∀ j, t.steer.shadowBank.get j =
      if j = i ∧ s.steer.marks.get i = false then s.steer.activeBank.get i else s.steer.shadowBank.get j) ∧
    (i.val ≠ 255 → t.events = s.events) ∧
    (i.val = 255 → t.events = { s.events with raised := s.events.raised ++ [{ block := .steeringUnit, events :=
      [{ kind := .tableSynced, subject := byteOf s.steer.active.code,
         detail := BitVec.ofNat 32 s.steer.generation.toNat }] }] }))

/-- R21, R168: the number of each event kind, and the set that holds one kind. R169: the raises of one step of a block
are one arrival. R169 to R171, R176: the taking of raises: the record, then the slots, then the opportunities of the
ports whose slots came to owe a kind, in port order. (Which arrival is taken is the command's: log 4; at LINK_UP every
arrival of the link layer, oldest first: log 5. Whose timestamp a record bears: log 31.) (The model's: logs 19 and
20.) -/
def Obligations.EventUnitTakesRaises : Prop :=
  EventKind.linkUp.code = 1 ∧ EventKind.linkDown.code = 2 ∧ EventKind.holdExpired.code = 3 ∧
  EventKind.bundleAbandoned.code = 4 ∧ EventKind.queueOff.code = 5 ∧ EventKind.poolLow.code = 6 ∧
  EventKind.poolRecovered.code = 7 ∧ EventKind.nodeMoved.code = 8 ∧ EventKind.directoryFull.code = 9 ∧
  EventKind.ownerChanged.code = 10 ∧ EventKind.ownerLost.code = 11 ∧ EventKind.tableSynced.code = 12 ∧
  EventKind.mgmtOverflow.code = 13 ∧ EventKind.restarted.code = 14 ∧ EventKind.recordsLost.code = 15 ∧
  (∀ k : EventKind, k.bit = (1 : Half) <<< k.code) ∧
  (∀ (k : EventKind) (subject detail : Nat), raiseOf k subject detail =
    { kind := k, subject := byteOf subject, detail := BitVec.ofNat 32 detail }) ∧
  (∀ (b : Block) (s : State), s.raise b [] = s) ∧
  (∀ (b : Block) (e : Raise) (es : List Raise) (s : State), s.raise b (e :: es) =
    { s with events := { s.events with raised := s.events.raised ++ [{ block := b, events := e :: es }] } }) ∧
  (∀ (b : Block) (s : State), s.takeAllOf b =
    ((s.events.raised.filter fun a => a.block == b).flatMap fun a => a.events).foldl State.takeRaise
      { s with events := { s.events with raised := s.events.raised.filter fun a => a.block != b } }) ∧
  (∀ (b : Block) (s : State), s.resetLow = false → (∀ a ∈ s.events.raised, a.block ≠ b) →
    exec (.eventRaise b) s = .next s) ∧
  (∀ (b : Block) (s : State) (a : Arrival), s.resetLow = false →
    s.events.raised.find? (fun x => x.block == b) = some a → exec (.eventRaise b) s = .next
      (a.events.foldl State.takeRaise { s with events := { s.events with
        raised := s.events.raised.eraseP fun x => x.block == b } })) ∧
  (∀ (s : State) (r : Raise) (full : Bool), full = decide (32 ≤ s.events.records.length) →
    ∃ (u : State) (ports : List Port), s.takeRaise r = ports.foldl State.opportunity u ∧
    u = { s with events := { s.events with records := u.events.records, lost := u.events.lost, slots := u.events.slots } } ∧
    (full = false → u.events.lost = s.events.lost ∧ u.events.records = s.events.records ++
      [{ kind := r.kind, subject := r.subject, detail := r.detail, time := s.now }]) ∧
    (full = true → u.events.lost = satAdd s.events.lost 1 ∧ u.events.records = s.events.records) ∧
    (∀ i, u.slot i = if full then ((s.slot i).act r.kind).act .recordsLost else (s.slot i).act r.kind) ∧
    ports.Pairwise (· < ·) ∧
    (∀ p, p ∈ ports ↔ ∃ i, (s.slot i).port = p ∧ (s.slot i).inUse = true ∧
      ∃ k, (k = r.kind ∨ (full = true ∧ k = .recordsLost)) ∧
        (s.slot i).kindSet.getLsbD k.code = true ∧ (s.slot i).pending.getLsbD k.code = false)) ∧
  (∀ (x : Slot) (k : EventKind),
    (x.inUse = false ∨ x.kindSet.getLsbD k.code = false → x.act k = x) ∧
    (x.inUse = true → x.kindSet.getLsbD k.code = true →
      (x.pending.getLsbD k.code = true → x.act k = { x with recurred := x.recurred ||| k.bit }) ∧
      (x.pending.getLsbD k.code = false → x.act k = { x with owed := x.owed ||| k.bit })))

/-- R21, R177: an opportunity: the NOTEs offered in slot order, each accepted or the last one refused. (The model's:
log 10.) -/
def Obligations.OpportunityOffersNotes : Prop :=
  (∀ (p : Port) (s : State), s.opportunity p = s.offerNotes p [0, 1, 2, 3, 4, 5, 6, 7]) ∧
  ∀ (p : Port) (i : SlotId) (rest : List SlotId) (s : State),
    (s.offerNotes p [] = s) ∧
    (¬ ((s.slot i).inUse = true ∧ (s.slot i).owed ≠ 0 ∧ (s.slot i).port = p) →
      s.offerNotes p (i :: rest) = s.offerNotes p rest) ∧
    ((s.slot i).inUse = true → (s.slot i).owed ≠ 0 → (s.slot i).port = p →
      ((s.link p).up = false ∨ 8 ≤ (s.link p).control.length →
        s.offerNotes p (i :: rest) = s.countMgmt .notesRefused 1) ∧
      ((s.link p).up = true → (s.link p).control.length < 8 → s.offerNotes p (i :: rest) =
        State.offerNotes p rest ((((s.modSlot i fun x => { x with
          pending := x.pending ||| x.owed, owed := 0, noteSeq := x.noteSeq + 1,
          repeatDeadline := if x.repeatInterval = 0 then x.repeatDeadline
            else some (s.now + BitVec.ofNat 32 (1000 * x.repeatInterval)) }).countMgmt .notesSent 1).modLink p fun l =>
          { l with control := l.control ++ [{ restart := false, frame :=
            { kind := 0x05, tag := 0, dst := (s.slot i).addr, src := s.ownAddress, seq := 0, flags := 0,
              payload := [byteOf i.val, (s.slot i).noteSeq] ++ be16 (s.slot i).owed ++ be32 s.now ++
                be32 s.events.lost } }] }).select p)))

/-- R154, with R40, R57, R62, R72, R94, R116, R135, R165 and R181: the restart. What one release of several batches
gives back, and its one comparison; what each block does at its own restart, with the release it makes; that a block
takes a restart once; what one RESTART_BEGIN does for the blocks that its free order names; and what the restart keeps
and clears when one RESTART_BEGIN takes every block, in whichever order. (The model's: logs 2, 4, 6, 7 and 28.) -/
def Obligations.RestartKeepsConfiguration : Prop :=
  (∀ e : EventUnit, (e.orders = [] → e.nextOrder = RestartBlock.all) ∧
    ∀ order later, e.orders = order :: later → e.nextOrder = order) ∧
  (∀ s : State, s.storedBatches = (s.queues.list.flatMap fun x => x.openBatch.toList ++ x.ready) ++
    s.trunks.list.flatMap fun k => k.bundles.map fun b => b.batch) ∧
  (∀ (s u : State) (gone : List Batch) (n : Nat), u = s.releaseBatches gone → n = (gone.map Batch.cells).sum →
    u = { s with pool := u.pool, events := u.events } ∧
    u.pool = { s.pool with freeCells := s.pool.freeCells + n, freeDescriptors := s.pool.freeDescriptors + gone.length,
                           accounts := u.pool.accounts, low := u.pool.low } ∧
    (∀ q : QueueId, u.account q.acct = { s.account q.acct with
      inUse := (s.account q.acct).inUse - ((gone.filter fun b => b.queue == q).map Batch.cells).sum }) ∧
    u.account retAcct = s.account retAcct ∧
    (n ≠ 0 → s.pool.low = true → s.pool.lowWater + 64 ≤ s.pool.freeCells + n → u.pool.low = false ∧
      u.events = { s.events with raised := s.events.raised ++ [{ block := .cellPool, events :=
        [{ kind := .poolRecovered, subject := 0, detail := BitVec.ofNat 32 (s.pool.freeCells + n) }] }] }) ∧
    (n ≠ 0 → s.pool.low = false → s.pool.freeCells + n < s.pool.lowWater → u.pool.low = true ∧
      u.events = { s.events with raised := s.events.raised ++ [{ block := .cellPool, events :=
        [{ kind := .poolLow, subject := 0, detail := BitVec.ofNat 32 (s.pool.freeCells + n) }] }] }) ∧
    (n = 0 ∨ (s.pool.low = true ∧ s.pool.freeCells + n < s.pool.lowWater + 64) ∨
        (s.pool.low = false ∧ s.pool.lowWater ≤ s.pool.freeCells + n) →
      u.pool.low = s.pool.low ∧ u.events = s.events)) ∧
  (∀ (s u : State), u = s.blockRestarts .edgeUnit →
    u = { s with edge := u.edge, links := u.links, pool := u.pool, events := u.events } ∧
    (u.pool = (s.release retAcct (s.edge.returns.list.map fun l => (l.map returnCells).sum).sum 0).pool) ∧
    (u.events = (s.release retAcct (s.edge.returns.list.map fun l => (l.map returnCells).sum).sum 0).events) ∧
    (∀ k, u.edge.returns.get k = []) ∧
    (∀ p, u.link p = { s.link p with wire := (s.link p).wire.filter fun w => w.owner != .returnFrame })) ∧
  (∀ s : State, s.blockRestarts .cellPool =
    { s with pool := { s.pool with low := decide (s.pool.freeCells < s.pool.lowWater) } }) ∧
  (∀ (s u : State) (gone : List Batch), u = s.blockRestarts .queueUnit →
    gone = (s.queues.list.flatMap fun x => x.openBatch.toList ++ x.ready) ++
      (s.trunks.list.flatMap fun k => k.bundles.map fun b => b.batch) →
    u = { s with queues := u.queues, trunks := u.trunks, links := u.links, pool := u.pool, events := u.events } ∧
    u.pool = (s.releaseBatches gone).pool ∧ u.events = (s.releaseBatches gone).events ∧
    (∀ q, u.queue q = { s.queue q with
      state := if (s.queue q).state = .active then .active else .off
      openBatch := none, ready := [], outstanding := 0, drain := none }) ∧
    (∀ t, (u.trunk t).bundles = [])) ∧
  (∀ (s u : State) (t : TrunkId), u = s.blockRestarts (.trunkUnit t) →
    u = { s with queues := u.queues, trunks := u.trunks, links := u.links, pool := u.pool, events := u.events } ∧
    u.pool = (s.releaseBatches ((s.trunk t).bundles.map fun b => b.batch)).pool ∧
    u.events = (s.releaseBatches ((s.trunk t).bundles.map fun b => b.batch)).events ∧
    u.trunks = s.trunks.set t { s.trunk t with
      state := if (s.trunk t).enabled = false then .disabled else if (s.link t.port).up then .running else .waiting
      stopRequested := false, hold := none, rrPointer := 15, levelPointers := .replicate 4 15, nextSeq := 0,
      bundles := [] } ∧
    (∀ q, (u.queue q).outstanding = (s.queue q).outstanding - ((s.trunk t).bundlesOf q).length)) ∧
  (∀ (s : State) (b : RestartBlock),
    (b ∉ s.events.awaiting → s.restartBlock b = s) ∧
    (b ∈ s.events.awaiting → s.restartBlock b =
      State.blockRestarts { s with events := { s.events with
        awaiting := s.events.awaiting.filter fun x => x != b } } b)) ∧
  (∀ (s t : State) (p : Port),
    ((s.link p).wire ≠ none → (t.link p).wire = none → s.selectAborted t p = t.select p) ∧
    ((s.link p).wire = none ∨ (t.link p).wire ≠ none → s.selectAborted t p = t)) ∧
  (∀ s u v : State, s.resetLow = false → s.mgmt.mode = .restartDue ∨ s.events.awaiting ≠ [] →
    u = { s with events := { s.events with
      orders := s.events.orders.tail
      awaiting := if s.events.awaiting = [] then RestartBlock.all else s.events.awaiting } } →
    v = (List.finRange 12).foldl (State.selectAborted s) (s.events.nextOrder.foldl State.restartBlock u) →
    (v.events.awaiting ≠ [] → exec .restartBegin s = .next v) ∧
    (v.events.awaiting = [] →
      exec .restartBegin s = .next (v.takeRaise { kind := .restarted, subject := 0, detail := 0 }))) ∧
  (∀ b : RestartBlock, b ∈ RestartBlock.all) ∧
  (∀ s : State, s.resetLow = false → s.mgmt.mode ≠ .restartDue → s.events.awaiting = [] →
    exec .restartBegin s = .next s) ∧
  (∀ s : State, s.resetLow = false → s.mgmt.mode = .restartDue → s.events.awaiting = [] →
    (∀ b, b ∈ s.events.nextOrder) → ∃ u : State,
    exec .restartBegin s = .next (u.takeRaise { kind := .restarted, subject := 0, detail := 0 }) ∧
    u.now = s.now ∧ u.ownAddress = s.ownAddress ∧ u.pending = s.pending ∧ u.profiles = s.profiles ∧
    u.resetLow = false ∧
    (∀ p, u.link p = { up := (s.link p).up, txCount := 0, wire := none, control := [] }) ∧
    u.edge = { s.edge with directory := u.edge.directory, fullRefusal := false, returns := u.edge.returns } ∧
    (∀ k, u.edge.returns.get k = []) ∧
    (∀ i, u.edge.directory.get i =
      match s.edge.directory.get i with
      | none => none
      | some d => if d.origin = .learned then none else some d) ∧
    u.steer.activeBank = s.steer.activeBank ∧ u.steer.active = s.steer.active ∧
    u.steer.generation = s.steer.generation ∧ u.steer.defaultAction = s.steer.defaultAction ∧
    u.steer.defaultQueue = s.steer.defaultQueue ∧ u.steer.syncing = false ∧
    (∀ i, u.steer.shadowBank.get i =
      if s.steer.syncing = true ∧ s.steer.nextIndex ≤ i.val ∧ s.steer.marks.get i = false then s.steer.activeBank.get i
      else s.steer.shadowBank.get i) ∧
    (∀ i, u.steer.marks.get i = false) ∧ (∀ i, u.steer.hitsA.get i = 0) ∧ (∀ i, u.steer.hitsB.get i = 0) ∧
    u.pool.freeCells = s.pool.freeCells + (s.storedBatches.map Batch.cells).sum +
      (s.edge.returns.list.map fun l => (l.map returnCells).sum).sum ∧
    u.pool.freeDescriptors = s.pool.freeDescriptors + s.storedBatches.length ∧ u.pool.lowWater = s.pool.lowWater ∧
    (∀ a, u.account a = { s.account a with inUse := (u.account a).inUse }) ∧
    (StorageInv s → u.pool.freeCells = 2048 ∧ u.pool.freeDescriptors = 256 ∧ u.pool.low = false ∧
      ∀ a, (u.account a).inUse = 0) ∧
    (∀ q, u.queue q = { s.queue q with
      state := if (s.queue q).state = .active then .active else .off
      openBatch := none, ready := [], outstanding := 0, drain := none }) ∧
    (∀ t : TrunkId, u.trunk t = { s.trunk t with
      state := if (s.trunk t).enabled = false then .disabled else if (s.link t.port).up then .running else .waiting
      stopRequested := false, hold := none, rrPointer := 15, levelPointers := .replicate 4 15, nextSeq := 0,
      bundles := [] }) ∧
    u.mgmt = { s.mgmt with requests := [], overflow := false, mode := .ready, owner := none, lastCause := .restart } ∧
    (∀ i, u.slot i = { s.slot i with owed := 0, pending := 0, recurred := 0, repeatDeadline := none }) ∧
    u.events.records = [] ∧ u.events.lost = 0 ∧ u.events.awaiting = [] ∧
    u.events.orders = s.events.orders.tail ∧
    (∃ pool, (∀ a ∈ pool, a.block = .cellPool) ∧ u.events.raised = s.events.raised ++ pool) ∧
    (∀ p c, u.portCounter p c = 0) ∧ (∀ q c, u.queueCounter q c = 0) ∧ (∀ t c, u.trunkCounter t c = 0) ∧
    (∀ c, u.mgmtCounter c = 0))

/-! ### Taking and answering requests -/

/-- R19, R149: the kind of each request code, with its operand length; the operands. R139, R151: the kinds that need
ownership. The row of each kind (that of a WRITE_ITEM by its item: O41). R137 to R140, R147: what every taking does
before the checks, and a request that a check of the management unit refuses: BAD_REQUEST (an unknown kind among them,
R142) or NOT_OWNER. The row that takes a request is the one of its kind (logs 8 and 29); the other rows do nothing.
While the unit is not READY, or no request waits, no row does anything (log 2). -/
def Obligations.TakingAndRefusing : Prop :=
  (∀ x ∈ ([(0x01, .identify, 0), (0x02, .claim, 0), (0x03, .release, 0), (0x04, .readItem, 3), (0x05, .writeItem, 7),
      (0x06, .tableWrite, 12), (0x07, .tableClear, 0), (0x08, .tableRead, 3), (0x09, .readHits, 3), (0x0A, .commit, 0),
      (0x0B, .queueStart, 1), (0x0C, .queueHalt, 1), (0x0D, .queueFlush, 1), (0x0E, .queuePurge, 1),
      (0x0F, .queueStatus, 1), (0x10, .dirPin, 3), (0x11, .dirUnpin, 2), (0x12, .dirFlush, 0), (0x13, .dirRead, 1),
      (0x14, .subscribe, 8), (0x15, .unsubscribe, 1), (0x16, .eventAck, 3), (0x17, .readEvents, 1),
      (0x18, .readCounters, 2), (0x19, .restart, 0)] : List (Byte × RequestKind × Nat)),
    (∀ r : Request, byteAt r.payload 2 = x.1 → r.kind = some x.2.1) ∧ x.2.1.operandLength = x.2.2) ∧
  (∀ r : Request, (byteAt r.payload 2).toNat = 0 ∨ 0x19 < (byteAt r.payload 2).toNat → r.kind = none) ∧
  (∀ (r : Request) (i : Nat), r.flags = byteAt r.payload 3 ∧ r.op i = byteAt r.payload (4 + i) ∧
    r.op16 i = halfAt r.payload (4 + i) ∧ r.value = (wordAt r.payload 7).toNat) ∧
  (∀ r : Request, r.mutating = true ↔
    (∃ k ∈ ([.writeItem, .tableWrite, .tableClear, .commit, .queueStart, .queueHalt, .queueFlush, .queuePurge, .dirPin,
        .dirUnpin, .dirFlush, .subscribe, .unsubscribe, .restart] : List RequestKind), r.kind = some k) ∨
      ((r.kind = some .readEvents ∨ r.kind = some .readCounters) ∧ r.flags.getLsbD 0 = true)) ∧
  (∀ x ∈ ([(.identify, .identify), (.claim, .claim), (.release, .release), (.readItem, .readItem),
      (.tableWrite, .tableWrite), (.tableClear, .tableClear), (.tableRead, .tableRead), (.readHits, .readHits),
      (.commit, .commit), (.queueStart, .queueStart), (.queueHalt, .queueHalt), (.queueFlush, .queueFlush),
      (.queuePurge, .queuePurge), (.queueStatus, .queueStatus), (.dirPin, .dirPin), (.dirUnpin, .dirUnpin),
      (.dirFlush, .dirFlush), (.dirRead, .dirRead), (.subscribe, .subscribe), (.unsubscribe, .unsubscribe),
      (.eventAck, .eventAck), (.restart, .restart)] : List (RequestKind × RequestRow)),
    ∀ r : Request, r.kind = some x.1 → r.row = x.2) ∧
  (∀ r : Request, (r.kind = none → r.row = .unknownRequestKind) ∧
    (r.kind = some .readEvents → r.row = if r.flags.getLsbD 0 then .readEventsTake else .readEvents) ∧
    (r.kind = some .readCounters → r.row = if r.flags.getLsbD 0 then .readCountersClear else .readCounters) ∧
    (r.kind = some .writeItem →
      (r.payload.length ≠ 11 ∨ r.item = none → r.row = .writeItem) ∧
      (∀ i, r.payload.length = 11 → r.item = some i → r.row = i.writeRow r.value))) ∧
  (∀ (s : State) (row : RequestRow), s.resetLow = false → s.mgmt.mode ≠ .ready ∨ s.mgmt.requests = [] →
    exec row.instr s = .next s) ∧
  ∀ (s : State) (r : Request) (rest : List Request), s.heads r rest →
    (s.taken r rest = ({ s with mgmt := { s.mgmt with
      requests := rest
      overflow := if rest = [] then false else s.mgmt.overflow
      owner :=
        match s.mgmt.owner with
        | none => none
        | some o => some (if o.addr = r.src then
            { o with port := r.port, lease := s.now + BitVec.ofNat 32 (1000 * s.mgmt.leaseTime) } else o) } }.countMgmt
          .requestsTaken 1)) ∧
    (∀ row : RequestRow, row ≠ r.row → exec row.instr s = .next s) ∧
    (r.kind = none → exec .unknownRequestKind s = .next ((s.taken r rest).answered r .badRequest [])) ∧
    (∀ k, r.kind = some k → r.payload.length ≠ 4 + k.operandLength →
      exec r.row.instr s = .next ((s.taken r rest).answered r .badRequest [])) ∧
    (∀ k, r.kind = some k → r.payload.length = 4 + k.operandLength → r.mutating = true →
      s.mgmt.owner.map Owner.addr ≠ some r.src → exec r.row.instr s = .next ((s.taken r rest).answered r .notOwner
        (be16 ((s.mgmt.owner.map Owner.addr).getD 0x0000))))

/-- R141: the status codes. R143, R152: what a removal from the control list of port `p` does with a held response:
placed, the unit is READY, or in RESTART_WAIT with that of a RESTART; at a full list it waits on with the same
deadline; at another port, or with none held, nothing. R5, R13, R20, R142, R143: the response frame, and the three
outcomes of offering it. (The model's: log 10.) -/
def Obligations.ResponseIsOffered : Prop :=
  Status.ok.code = 0 ∧ Status.busy.code = 1 ∧ Status.notOwner.code = 2 ∧ Status.badRequest.code = 3 ∧
  Status.badIndex.code = 4 ∧ Status.badValue.code = 5 ∧ Status.wrongState.code = 6 ∧ Status.noResource.code = 7 ∧
  (∀ (s : State) (p q : Port) (c : ControlFrame) (d : Word), s.mgmt.mode = .responseWait c q d →
    (q ≠ p → s.reoffer p = s) ∧
    (q = p → (s.link p).up = true → (s.link p).control.length < 8 → s.reoffer p =
      (({ s with mgmt := { s.mgmt with mode := if c.restart then .restartWait else .ready } }.modLink p fun l =>
        { l with control := l.control ++ [c] }).select p)) ∧
    (q = p → (s.link p).up = true → 8 ≤ (s.link p).control.length → s.reoffer p = s)) ∧
  (∀ (s : State) (p : Port), (∀ c q d, s.mgmt.mode ≠ .responseWait c q d) → s.reoffer p = s) ∧
  ∀ (u : State) (r : Request) (st : Status) (data : List Byte) (c : ControlFrame),
    c = { restart := false, frame :=
      { kind := 0x04, tag := 0, dst := r.src, src := u.ownAddress, seq := 0, flags := 0,
        payload := [byteAt r.payload 0, byteAt r.payload 1, byteAt r.payload 2, st.code] ++ be16n data.length ++ data } } →
    ((u.link r.port).up = false →
      u.answered r st data = { u with mgmt := { u.mgmt with mode := .ready } }.countMgmt .responseLost 1) ∧
    ((u.link r.port).up = true → (u.link r.port).control.length < 8 →
      u.answered r st data = (({ u with mgmt := { u.mgmt with mode := .ready } }.modLink r.port fun l =>
        { l with control := l.control ++ [c] }).select r.port)) ∧
    ((u.link r.port).up = true → 8 ≤ (u.link r.port).control.length →
      u.answered r st data = { u with mgmt := { u.mgmt with
        mode := .responseWait c r.port (u.now + BitVec.ofNat 32 10000) } })

/-- R35, R90, R150: IDENTIFY, QUEUE_STATUS and DIR_READ read and change nothing. (The model's: log 8.) -/
def Obligations.ReadRequestsAnswer : Prop :=
  ∀ (s : State) (r : Request) (rest : List Request),
    (s.admits r rest .identify → exec .identify s = .next ((s.taken r rest).answered r .ok
      ([0x5A, 0x31, 0x00, 0x84, 1] ++ be16 s.ownAddress ++ be16 s.steer.generation ++
        [if s.steer.active = .a then 0 else 1] ++ be16 ((s.mgmt.owner.map Owner.addr).getD 0x0000) ++
        [if s.mgmt.lastCause = .power then 1 else 2]))) ∧
    (s.admits r rest .queueStatus →
      (16 ≤ (r.op 0).toNat → exec .queueStatus s = .next ((s.taken r rest).answered r .badIndex [])) ∧
      (∀ q : QueueId, (r.op 0).toNat = q.val → exec .queueStatus s = .next ((s.taken r rest).answered r .ok
        ([byteOf (match (s.queue q).state with | .off => 0 | .active => 1 | .halting => 2)] ++
          be16n ((s.queue q).openBatch.elim 0 fun b => b.byteSize) ++
          [byteOf ((s.queue q).openBatch.elim 0 fun b => b.members.length)] ++ be16n (s.queue q).ready.length ++
          be16n (s.queue q).outstanding ++ be16n (s.account q.acct).inUse)))) ∧
    (s.admits r rest .dirRead →
      (64 ≤ (r.op 0).toNat → exec .dirRead s = .next ((s.taken r rest).answered r .badIndex [])) ∧
      (∀ i : DirPos, (r.op 0).toNat = i.val →
        (s.edge.directory.get i = none →
          exec .dirRead s = .next ((s.taken r rest).answered r .ok [0, 0, 0, 0, 0, 0, 0, 0, 0])) ∧
        (∀ d, s.edge.directory.get i = some d → exec .dirRead s = .next ((s.taken r rest).answered r .ok
          ([1] ++ be16 d.addr ++ [byteOf d.port.val, if d.origin = .learned then 0 else 1] ++
            be32 (s.edge.seconds - d.lastSeen))))))

/-- R157, R158, R160: READ_ITEM by group, instance and field. (The model's: log 8.) -/
def Obligations.ReadItemAnswersValue : Prop :=
  (∀ (s : State) (r : Request) (rest : List Request), s.admits r rest .readItem →
    (r.item = none → exec .readItem s = .next ((s.taken r rest).answered r .badIndex [])) ∧
    (∀ i, r.item = some i → exec .readItem s = .next ((s.taken r rest).answered r .ok (be32n (s.readItem i))))) ∧
  (∀ r : Request, r.item = Item.ofName (r.op 0).toNat (r.op 1).toNat (r.op 2).toNat) ∧
  (∀ s : State,
    (Item.ofName 0 0 0x01).map s.readItem = some s.ownAddress.toNat ∧
    (Item.ofName 0 0 0x02).map s.readItem = some (if s.mgmt.lastCause = .power then 1 else 2) ∧
    (Item.ofName 0 0 0x03).map s.readItem = some (if s.steer.defaultAction = .discard then 0 else 1) ∧
    (Item.ofName 0 0 0x04).map s.readItem = some s.steer.defaultQueue.val ∧
    (Item.ofName 0 0 0x05).map s.readItem = some s.mgmt.leaseTime ∧
    (Item.ofName 0 0 0x06).map s.readItem = some s.edge.directoryAge ∧
    (Item.ofName 0 0 0x07).map s.readItem = some s.pool.lowWater ∧
    (Item.ofName 0 0 0x08).map s.readItem = some (s.account retAcct).reserve ∧
    (Item.ofName 0 0 0x09).map s.readItem = some (s.account retAcct).cap ∧
    (Item.ofName 0 0 0x0A).map s.readItem = some s.pool.freeCells ∧
    (Item.ofName 0 0 0x0B).map s.readItem = some s.pool.freeDescriptors ∧
    (Item.ofName 0 0 0x0C).map s.readItem = some s.steer.generation.toNat ∧
    (Item.ofName 0 0 0x0D).map s.readItem = some (if s.steer.active = .a then 0 else 1) ∧
    (Item.ofName 0 0 0x0E).map s.readItem = some s.steer.syncing.toNat ∧
    (Item.ofName 0 0 0x0F).map s.readItem = some s.now.toNat ∧
    (Item.ofName 0 0 0x10).map s.readItem = some s.events.lost.toNat) ∧
  (∀ (s : State) (p : Port), (Item.ofName 1 p.val 0x02).map s.readItem = some (s.link p).up.toNat) ∧
  (∀ (s : State) (k : EdgeId), (Item.ofName 1 k.val 0x01).map s.readItem = some (s.edge.enabled.get k).toNat ∧
    ∀ field, 3 ≤ field → Item.ofName 1 k.val field = none) ∧
  (∀ (s : State) (t : TrunkId),
    (Item.ofName 1 (8 + t.val) 0x01).map s.readItem = some (s.trunk t).enabled.toNat ∧
    (Item.ofName 1 (8 + t.val) 0x03).map s.readItem = some (s.trunk t).priorityMode.toNat ∧
    (Item.ofName 1 (8 + t.val) 0x04).map s.readItem = some (s.trunk t).collector.toNat ∧
    (Item.ofName 1 (8 + t.val) 0x05).map s.readItem = some (s.trunk t).windowSize ∧
    (Item.ofName 1 (8 + t.val) 0x06).map s.readItem = some (s.trunk t).retryInterval ∧
    (Item.ofName 1 (8 + t.val) 0x07).map s.readItem = some (s.trunk t).retryLimit ∧
    (Item.ofName 1 (8 + t.val) 0x08).map s.readItem = some (s.trunk t).holdTime ∧
    (Item.ofName 1 (8 + t.val) 0x09).map s.readItem = some (match (s.trunk t).state with
      | .disabled => 0 | .waiting => 1 | .running => 2 | .stopping => 3 | .holding => 4)) ∧
  (∀ (s : State) (q : QueueId),
    (Item.ofName 2 q.val 0x01).map s.readItem = some (8 + (s.queue q).trunk.val) ∧
    (Item.ofName 2 q.val 0x02).map s.readItem = some (s.queue q).priority.val ∧
    (Item.ofName 2 q.val 0x03).map s.readItem = some (s.queue q).profile.val ∧
    (Item.ofName 2 q.val 0x04).map s.readItem = some (s.account q.acct).reserve ∧
    (Item.ofName 2 q.val 0x05).map s.readItem = some (s.account q.acct).cap ∧
    (Item.ofName 2 q.val 0x06).map s.readItem = some (s.queue q).drainLimit ∧
    (Item.ofName 2 q.val 0x07).map s.readItem = some (match (s.queue q).state with
      | .off => 0 | .active => 1 | .halting => 2)) ∧
  (∀ (s : State) (f : ProfileId),
    (Item.ofName 3 f.val 0x01).map s.readItem = some (s.profile f).threshold ∧
    (Item.ofName 3 f.val 0x02).map s.readItem = some (s.profile f).frameLimit ∧
    (Item.ofName 3 f.val 0x03).map s.readItem = some (s.profile f).ageLimit) ∧
  (∀ group inst field : Nat,
    4 ≤ group ∨ (group = 0 ∧ inst ≠ 0) ∨ (group = 1 ∧ 12 ≤ inst) ∨ (group = 2 ∧ 16 ≤ inst) ∨ (group = 3 ∧ 8 ≤ inst) ∨
      field = 0 ∨ (group = 0 ∧ 0x10 < field) ∨ (group = 1 ∧ 0x09 < field) ∨ (group = 2 ∧ 0x07 < field) ∨
      (group = 3 ∧ 0x03 < field) → Item.ofName group inst field = none)

/-- R144 to R146: CLAIM and RELEASE; `u` is the state after the taking. (The model's: logs 4 and 8.) -/
def Obligations.ClaimAndRelease : Prop :=
  ∀ (s u : State) (r : Request) (rest : List Request), u = s.taken r rest →
    (s.admits r rest .claim →
      (s.mgmt.owner = none → exec .claim s = .next (({ u with
          mgmt := { u.mgmt with
            owner := some
              { addr := r.src, port := r.port, lease := s.now + BitVec.ofNat 32 (1000 * s.mgmt.leaseTime) } }
          events := { s.events with raised := s.events.raised ++ [{ block := .managementUnit, events :=
            [raiseOf .ownerChanged r.port.val r.src.toNat] }] } } : State).answered r .ok
        ([byteOf r.port.val] ++ be32n s.mgmt.leaseTime))) ∧
      (∀ o, s.mgmt.owner = some o →
        (o.addr = r.src → exec .claim s = .next (u.answered r .ok ([byteOf r.port.val] ++ be32n s.mgmt.leaseTime))) ∧
        (o.addr ≠ r.src → exec .claim s = .next (u.answered r .busy (be16 o.addr))))) ∧
    (s.admits r rest .release →
      (s.mgmt.owner.map Owner.addr = some r.src → exec .release s = .next (({ u with
          mgmt := { u.mgmt with owner := none }
          events := { s.events with raised := s.events.raised ++ [{ block := .managementUnit, events :=
            [raiseOf .ownerChanged r.port.val 0] }] } } : State).answered r .ok [])) ∧
      (s.mgmt.owner.map Owner.addr ≠ some r.src → exec .release s = .next (u.answered r .notOwner
        (be16 ((s.mgmt.owner.map Owner.addr).getD 0x0000)))))

/-- R157, R160: the item of each name. R159, R160, R45, R73, R74, R95: the seven rows that take a WRITE_ITEM
(WRITE_ITEM, WRITE_EDGE_ADMIN_STATE, WRITE_TRUNK_ADMIN_ENABLED, WRITE_TRUNK_ADMIN_DISABLED, WRITE_RESERVE, WRITE_CAP,
WRITE_POOL_LOW_WATER), and the items that have no behaviour of their own. (The model's: logs 8 and 29; which of the
seven rows takes which item is log 29.) -/
def Obligations.WriteItemChecksAndWrites : Prop :=
  (([1, 2, 3, 4, 5, 6, 7, 8, 9, 10, 11, 12, 13, 14, 15, 16] : List Nat).map (Item.ofName 0 0) =
    ([.ownAddress, .lastResetCause, .defaultAction, .defaultQueue, .leaseTime, .directoryAge, .poolLowWater, .retReserve,
      .retCap, .freeCells, .freeDescriptors, .generation, .activeBank, .syncState, .timestamp, .recordsLost] :
      List Item).map some) ∧
  (∀ p : Port, ([1, 2] : List Nat).map (Item.ofName 1 p.val) = [some (.portAdmin p), some (.portLink p)]) ∧
  (∀ t : TrunkId, ([3, 4, 5, 6, 7, 8, 9] : List Nat).map (Item.ofName 1 (8 + t.val)) =
    ([.arbitrationMode t, .collector t, .windowSize t, .retryInterval t, .retryLimit t, .holdTime t, .trunkState t] :
      List Item).map some) ∧
  (∀ q : QueueId, ([1, 2, 3, 4, 5, 6, 7] : List Nat).map (Item.ofName 2 q.val) =
    ([.queueTrunk q, .queuePriority q, .queueProfile q, .queueReserve q, .queueCap q, .queueDrainLimit q,
      .queueState q] : List Item).map some) ∧
  (∀ f : ProfileId, ([1, 2, 3] : List Nat).map (Item.ofName 3 f.val) =
    ([.threshold f, .frameLimit f, .ageLimit f] : List Item).map some) ∧
  (∀ (k : EdgeId) (v : Nat), (Item.portAdmin k.port).writeRow v = .writeEdgeAdminState) ∧
  (∀ (t : TrunkId) (v : Nat),
    (v = 1 → (Item.portAdmin t.port).writeRow v = .writeTrunkAdminEnabled) ∧
    (v = 0 → (Item.portAdmin t.port).writeRow v = .writeTrunkAdminDisabled) ∧
    (2 ≤ v → (Item.portAdmin t.port).writeRow v = .writeItem)) ∧
  (∀ (i : Item) (v : Nat),
    (i = .retReserve ∨ (∃ q, i = .queueReserve q) → i.writeRow v = .writeReserve) ∧
    (i = .retCap ∨ (∃ q, i = .queueCap q) → i.writeRow v = .writeCap) ∧
    (i = .poolLowWater → i.writeRow v = .writePoolLowWater) ∧
    ((∀ p, i ≠ .portAdmin p) → i ≠ .retReserve → (∀ q, i ≠ .queueReserve q) → i ≠ .retCap → (∀ q, i ≠ .queueCap q) →
      i ≠ .poolLowWater → i.writeRow v = .writeItem)) ∧
  (∀ (s : State) (r : Request) (rest : List Request), s.admits r rest .writeItem →
    (r.item = none → exec .writeItem s = .next ((s.taken r rest).answered r .badIndex [])) ∧
    (∀ i row, r.item = some i → row = r.row →
      row = .writeItem ∨ row = .writeEdgeAdminState ∨ row = .writeTrunkAdminEnabled ∨ row = .writeTrunkAdminDisabled ∨
        row = .writeReserve ∨ row = .writeCap ∨ row = .writePoolLowWater →
      exec row.instr s = .next ((((s.taken r rest).writeItem i (wordAt r.payload 7).toNat).1).answered r
        ((s.taken r rest).writeItem i (wordAt r.payload 7).toNat).2 []))) ∧
  (∀ (s : State) (i : Item) (v : Nat),
    i ∈ [Item.ownAddress, .lastResetCause, .freeCells, .freeDescriptors, .generation, .activeBank, .syncState,
      .timestamp, .recordsLost] ∨ (∃ p, i = .portLink p) ∨ (∃ t, i = .trunkState t) ∨ (∃ q, i = .queueState q) →
    s.writeItem i v = (s, .badIndex)) ∧
  (∀ (s : State) (v : Nat),
    s.writeItem .defaultAction v = (if v = 0 then ({ s with steer := { s.steer with defaultAction := .discard } }, .ok)
      else if v = 1 then ({ s with steer := { s.steer with defaultAction := .toQueue } }, .ok) else (s, .badValue)) ∧
    (16 ≤ v → s.writeItem .defaultQueue v = (s, .badValue)) ∧
    (∀ q : QueueId, v = q.val →
      s.writeItem .defaultQueue v = ({ s with steer := { s.steer with defaultQueue := q } }, .ok)) ∧
    s.writeItem .leaseTime v = (if 1000 ≤ v ∧ v ≤ 600000 then ({ s with mgmt := { s.mgmt with leaseTime := v } }, .ok)
      else (s, .badValue)) ∧
    s.writeItem .directoryAge v = (if v ≤ 3600 then ({ s with edge := { s.edge with directoryAge := v } }, .ok)
      else (s, .badValue))) ∧
  (∀ (s : State) (t : TrunkId) (v : Nat),
    s.writeItem (.arbitrationMode t) v =
      (if v ≤ 1 then (s.modTrunk t fun k => { k with priorityMode := decide (v = 1) }, .ok) else (s, .badValue)) ∧
    s.writeItem (.collector t) v = (if 1 ≤ v ∧ v ≤ 65535 then
      (s.modTrunk t fun k => { k with collector := BitVec.ofNat 16 v }, .ok) else (s, .badValue)) ∧
    s.writeItem (.windowSize t) v = (if ¬ (1 ≤ v ∧ v ≤ 16) then (s, .badValue)
      else if (s.trunk t).state ≠ .disabled then (s, .wrongState)
      else (s.modTrunk t fun k => { k with windowSize := v }, .ok)) ∧
    s.writeItem (.retryInterval t) v = (if 100 ≤ v ∧ v ≤ 1000000 then
      (s.modTrunk t fun k => { k with retryInterval := v }, .ok) else (s, .badValue)) ∧
    s.writeItem (.retryLimit t) v =
      (if v ≤ 15 then (s.modTrunk t fun k => { k with retryLimit := v }, .ok) else (s, .badValue)) ∧
    s.writeItem (.holdTime t) v =
      (if v ≤ 65535 then (s.modTrunk t fun k => { k with holdTime := v }, .ok) else (s, .badValue))) ∧
  (∀ (s : State) (q : QueueId) (v : Nat),
    (v < 8 ∨ 12 ≤ v → s.writeItem (.queueTrunk q) v = (s, .badValue)) ∧
    (∀ t : TrunkId, v = 8 + t.val → s.writeItem (.queueTrunk q) v = (if (s.queue q).state ≠ .off then (s, .wrongState)
      else (s.modQueue q fun u => { u with trunk := t }, .ok))) ∧
    (4 ≤ v → s.writeItem (.queuePriority q) v = (s, .badValue)) ∧
    (∀ l : Fin 4, v = l.val →
      s.writeItem (.queuePriority q) v = (s.modQueue q fun u => { u with priority := l }, .ok)) ∧
    (8 ≤ v → s.writeItem (.queueProfile q) v = (s, .badValue)) ∧
    (∀ f : ProfileId, v = f.val → s.writeItem (.queueProfile q) v = (if (s.queue q).state ≠ .off then (s, .wrongState)
      else (s.modQueue q fun u => { u with profile := f }, .ok))) ∧
    s.writeItem (.queueDrainLimit q) v = (if 1 ≤ v ∧ v ≤ 65535 then
      (s.modQueue q fun u => { u with drainLimit := v }, .ok) else (s, .badValue))) ∧
  (∀ (s : State) (f : ProfileId) (v : Nat),
    s.writeItem (.threshold f) v = (if 256 ≤ v ∧ v ≤ 4096 ∧ v % 64 = 0 then
      (s.modProfile f fun x => { x with threshold := v }, .ok) else (s, .badValue)) ∧
    s.writeItem (.frameLimit f) v = (if 1 ≤ v ∧ v ≤ 32 then
      (s.modProfile f fun x => { x with frameLimit := v }, .ok) else (s, .badValue)) ∧
    s.writeItem (.ageLimit f) v = (if v = 0 ∨ (10 ≤ v ∧ v ≤ 1000000) then
      (s.modProfile f fun x => { x with ageLimit := v }, .ok) else (s, .badValue)))

/-- R24, R97, R98: writes of a port's admin state. -/
def Obligations.AdminWrites : Prop :=
  (∀ (s : State) (k : EdgeId) (v : Nat),
     (2 ≤ v → s.writeItem (.portAdmin k.port) v = (s, .badValue)) ∧
     (v = 1 → s.writeItem (.portAdmin k.port) v =
       ({ s with edge := { s.edge with enabled := s.edge.enabled.set k true } }, .ok)) ∧
     (v = 0 → s.edge.enabled.get k = false → s.writeItem (.portAdmin k.port) v = (s, .ok)) ∧
     (v = 0 → s.edge.enabled.get k = true → ∀ kept gone : List Frame, s.edge.returns.get k = kept ++ gone →
       ((∃ w, (s.link k.port).wire = some w ∧ w.owner = .returnFrame) → kept.length = min 1 (s.edge.returns.get k).length) →
       (¬ (∃ w, (s.link k.port).wire = some w ∧ w.owner = .returnFrame) → kept = []) → ∃ u : State,
       s.writeItem (.portAdmin k.port) v = (u, .ok) ∧
       u = { s with edge := u.edge, pool := u.pool, events := u.events, counters := u.counters } ∧
       u.edge = { s.edge with enabled := s.edge.enabled.set k false, returns := s.edge.returns.set k kept } ∧
       u.pool = (s.release retAcct (gone.map returnCells).sum 0).pool ∧
       u.events = (s.release retAcct (gone.map returnCells).sum 0).events ∧
       u.counters = (s.countPort k.port .returnLost gone.length).counters)) ∧
  (∀ (s : State) (t : TrunkId) (v : Nat),
     (2 ≤ v → s.writeItem (.portAdmin t.port) v = (s, .badValue)) ∧
     (v = 1 →
       ((s.trunk t).state = .disabled → s.writeItem (.portAdmin t.port) v = ((s.modTrunk t fun k =>
         { k with enabled := true, state := if (s.link t.port).up then .running else .waiting }).trunkSelect t, .ok)) ∧
       ((s.trunk t).state = .stopping → s.writeItem (.portAdmin t.port) v =
         ((s.modTrunk t fun k => { k with enabled := true, state := .running }).trunkSelect t, .ok)) ∧
       ((s.trunk t).state = .holding → s.writeItem (.portAdmin t.port) v =
         (s.modTrunk t fun k => { k with enabled := true, stopRequested := false }, .ok)) ∧
       ((s.trunk t).state = .running ∨ (s.trunk t).state = .waiting → s.writeItem (.portAdmin t.port) v =
         (s.modTrunk t fun k => { k with enabled := true }, .ok))) ∧
     (v = 0 →
       ((s.trunk t).state = .running → s.writeItem (.portAdmin t.port) v = (s.modTrunk t fun k =>
         { k with enabled := false, state := if (s.trunk t).bundles = [] then .disabled else .stopping }, .ok)) ∧
       ((s.trunk t).state = .waiting → s.writeItem (.portAdmin t.port) v =
         (s.modTrunk t fun k => { k with enabled := false, state := .disabled }, .ok)) ∧
       ((s.trunk t).state = .holding → s.writeItem (.portAdmin t.port) v =
         (s.modTrunk t fun k => { k with enabled := false, stopRequested := true }, .ok)) ∧
       ((s.trunk t).state = .disabled ∨ (s.trunk t).state = .stopping → s.writeItem (.portAdmin t.port) v =
         (s.modTrunk t fun k => { k with enabled := false }, .ok))))

/-- R64, R65, R70: writes of a reserve, a cap and the low-water value. `blocked` says that the account is a queue's
and the queue is not OFF. (The model's: log 4.) -/
def Obligations.PoolItemWrites : Prop :=
  (∀ (s : State) (a : AcctId) (i j : Item) (blocked : Bool) (v : Nat),
    (a = retAcct ∧ i = .retReserve ∧ j = .retCap ∧ blocked = false) ∨
      (∃ q : QueueId, a = q.acct ∧ i = .queueReserve q ∧ j = .queueCap q ∧ blocked = !((s.queue q).state == .off)) →
    s.writeItem i v =
      (if 256 < v then (s, .badValue)
      else if blocked then (s, .wrongState)
      else if (s.account a).cap < v then (s, .badValue)
      else if 1024 < s.pool.reserveSum - (s.account a).reserve + v then (s, .badValue)
      else if (s.account a).unused + s.pool.freeCells < (v - (s.account a).inUse) + s.pool.unusedSum then (s, .noResource)
      else ({ s with pool := { s.pool with accounts := s.pool.accounts.set a { s.account a with reserve := v } } }, .ok)) ∧
    s.writeItem j v =
      (if v < 16 ∨ 2048 < v then (s, .badValue)
      else if blocked then (s, .wrongState)
      else if v < (s.account a).reserve ∨ v < (s.account a).inUse then (s, .badValue)
      else ({ s with pool := { s.pool with accounts := s.pool.accounts.set a { s.account a with cap := v } } }, .ok))) ∧
  (∀ (s : State) (v : Nat),
    (v < 16 ∨ 1024 < v → s.writeItem .poolLowWater v = (s, .badValue)) ∧
    (16 ≤ v → v ≤ 1024 → ∃ u : State, s.writeItem .poolLowWater v = (u, .ok) ∧
      u = { s with pool := { s.pool with lowWater := v, low := u.pool.low }, events := u.events } ∧
      (s.pool.low = false → v ≤ s.pool.freeCells → u.pool.low = false ∧ u.events = s.events) ∧
      (s.pool.low = false → s.pool.freeCells < v → u.pool.low = true ∧ u.events = { s.events with raised :=
        s.events.raised ++ [{ block := .cellPool, events := [raiseOf .poolLow 0 s.pool.freeCells] }] }) ∧
      (s.pool.low = true → s.pool.freeCells < v + 64 → u.pool.low = true ∧ u.events = s.events) ∧
      (s.pool.low = true → v + 64 ≤ s.pool.freeCells → u.pool.low = false ∧ u.events = { s.events with raised :=
        s.events.raised ++ [{ block := .cellPool, events := [raiseOf .poolRecovered 0 s.pool.freeCells] }] })))

/-! ### Steering, queue, directory and event requests; `u` is the state after the taking -/

/-- R42: the blank entry. R48, R49, R52, R53: TABLE_WRITE, TABLE_CLEAR and COMMIT. (The model's: log 8.) -/
def Obligations.ShadowRequests : Prop :=
  SteerEntry.blank = { valid := false, portSet := 0, srcValue := 0, srcMask := 0, tagValue := 0, tagMask := 0,
                       action := .discard, queue := 0 } ∧
  ∀ (s u : State) (r : Request) (rest : List Request), u = s.taken r rest →
    (s.admits r rest .tableWrite →
      (256 ≤ (r.op16 0).toNat → exec .tableWrite s = .next (u.answered r .badIndex [])) ∧
      ((r.op16 0).toNat < 256 → 1 < (r.op 10).toNat ∨ 16 ≤ (r.op 11).toNat →
        exec .tableWrite s = .next (u.answered r .badValue [])) ∧
      (∀ (i : EntryId) (q : QueueId), (r.op16 0).toNat = i.val → (r.op 11).toNat = q.val → (r.op 10).toNat ≤ 1 → ∃ x : Steer,
        exec .tableWrite s = .next ({ u with steer := x }.answered r .ok []) ∧
        x = { s.steer with bankA := x.bankA, bankB := x.bankB, marks := s.steer.marks.set i true } ∧
        x.activeBank = s.steer.activeBank ∧ (∀ j, j ≠ i → x.shadowBank.get j = s.steer.shadowBank.get j) ∧
        x.shadowBank.get i =
          { valid := decide (r.op 2 ≠ 0), portSet := r.op 3, srcValue := r.op16 4, srcMask := r.op16 6,
            tagValue := r.op 8, tagMask := r.op 9, action := if (r.op 10).toNat = 0 then .discard else .toQueue,
            queue := q })) ∧
    (s.admits r rest .tableClear → ∃ x : Steer,
      exec .tableClear s = .next ({ u with steer := x }.answered r .ok []) ∧
      x = { s.steer with bankA := x.bankA, bankB := x.bankB, marks := x.marks } ∧
      x.activeBank = s.steer.activeBank ∧ (∀ j, x.shadowBank.get j = SteerEntry.blank) ∧ (∀ j, x.marks.get j = true)) ∧
    (s.admits r rest .commit →
      (s.steer.syncing = true → exec .commit s = .next (u.answered r .busy (be16n s.steer.nextIndex))) ∧
      (s.steer.syncing = false → ∃ x : Steer,
        exec .commit s = .next ({ u with steer := x }.answered r .ok
          (be16 (s.steer.generation + 1) ++ [if x.active = Bank.a then 0 else 1])) ∧
        x = { s.steer with active := s.steer.active.other, generation := s.steer.generation + 1, hitsA := x.hitsA,
                           hitsB := x.hitsB, marks := x.marks, syncing := true, nextIndex := 0 } ∧
        x.activeBank = s.steer.shadowBank ∧ x.shadowBank = s.steer.activeBank ∧
        (∀ i, (x.hits x.active).get i = 0) ∧ (∀ i, x.marks.get i = false)))

/-- R50, R51: TABLE_READ and READ_HITS. (The model's: logs 8 and 34; the order of the fields of the entry that TABLE_READ
answers is log 34.) -/
def Obligations.TableReads : Prop :=
  ∀ (s u : State) (r : Request) (rest : List Request), u = s.taken r rest →
    (s.admits r rest .tableRead →
      (1 < (r.op 0).toNat → exec .tableRead s = .next (u.answered r .badValue [])) ∧
      ((r.op 0).toNat ≤ 1 → 256 ≤ (r.op16 1).toNat → exec .tableRead s = .next (u.answered r .badIndex [])) ∧
      (∀ (i : EntryId) (shadow : Bool) (e : SteerEntry), (r.op16 1).toNat = i.val → (r.op 0).toNat = shadow.toNat →
        e = (if shadow then s.steer.shadowBank.get i else s.steer.activeBank.get i) →
        exec .tableRead s = .next (u.answered r .ok
          ([if shadow = (s.steer.active == Bank.a) then 1 else 0] ++ be16 s.steer.generation ++
            ([if e.valid then 1 else 0, e.portSet] ++ be16 e.srcValue ++ be16 e.srcMask ++
              [e.tagValue, e.tagMask, if e.action = .discard then 0 else 1, byteOf e.queue.val]) ++
            [if shadow = false then 0 else if s.steer.marks.get i then 1
             else if s.steer.syncing ∧ s.steer.nextIndex ≤ i.val then 2 else 0])))) ∧
    (s.admits r rest .readHits →
      (255 < (r.op16 0).toNat → exec .readHits s = .next (u.answered r .badIndex [])) ∧
      ((r.op16 0).toNat ≤ 255 → (r.op 2).toNat = 0 ∨ 56 < (r.op 2).toNat →
        exec .readHits s = .next (u.answered r .badValue [])) ∧
      (1 ≤ (r.op 2).toNat → (r.op 2).toNat ≤ 56 → 256 < (r.op16 0).toNat + (r.op 2).toNat →
        exec .readHits s = .next (u.answered r .badIndex [])) ∧
      (1 ≤ (r.op 2).toNat → (r.op 2).toNat ≤ 56 → (r.op16 0).toNat + (r.op 2).toNat ≤ 256 →
        exec .readHits s = .next (u.answered r .ok (be16 s.steer.generation ++
          (((s.steer.hits s.steer.active).list.drop (r.op16 0).toNat).take (r.op 2).toNat).flatMap be32))))

/-- R83, R84, R104, R140: QUEUE_START and QUEUE_FLUSH; the arbiter's decision comes before the offer of the response.
(The model's: logs 8 and 10.) -/
def Obligations.QueueStartAndFlush : Prop :=
  ∀ (s u : State) (r : Request) (rest : List Request), u = s.taken r rest →
    (s.admits r rest .queueStart →
      (16 ≤ (r.op 0).toNat → exec .queueStart s = .next (u.answered r .badIndex [])) ∧
      (∀ q : QueueId, (r.op 0).toNat = q.val →
        ((s.queue q).state = .off →
          exec .queueStart s = .next ((u.modQueue q fun x => { x with state := .active }).answered r .ok [])) ∧
        ((s.queue q).state = .active → exec .queueStart s = .next (u.answered r .ok [])) ∧
        ((s.queue q).state = .halting → exec .queueStart s = .next (u.answered r .wrongState [])))) ∧
    (s.admits r rest .queueFlush →
      (16 ≤ (r.op 0).toNat → exec .queueFlush s = .next (u.answered r .badIndex [])) ∧
      (∀ q : QueueId, (r.op 0).toNat = q.val →
        ((s.queue q).state = .off → exec .queueFlush s = .next (u.answered r .wrongState [])) ∧
        ((s.queue q).state = .halting → exec .queueFlush s = .next (u.answered r .ok [0])) ∧
        ((s.queue q).state = .active → (s.queue q).openBatch = none →
          exec .queueFlush s = .next (u.answered r .ok [0])) ∧
        (∀ b, (s.queue q).state = .active → (s.queue q).openBatch = some b →
          exec .queueFlush s = .next (((u.closeOpen q .flush).trunkSelect (s.queue q).trunk).answered r .ok
            [byteOf b.members.length]))))

/-- R85, R86, R104, R140: QUEUE_HALT; the arbiter's decision comes before the offer of the response. (The model's: logs
4, 8 and 10.) -/
def Obligations.QueueHalt : Prop :=
  ∀ (s u : State) (r : Request) (rest : List Request), u = s.taken r rest → s.admits r rest .queueHalt →
    (16 ≤ (r.op 0).toNat → exec .queueHalt s = .next (u.answered r .badIndex [])) ∧
    (∀ q : QueueId, (r.op 0).toNat = q.val → ∀ h : Queue → Queue,
      h = (fun x => { x with
        state := .halting, drain := some (s.now + BitVec.ofNat 32 (1000 * (s.queue q).drainLimit)) }) →
      ((s.queue q).state = .off → exec .queueHalt s = .next (u.answered r .wrongState [])) ∧
      ((s.queue q).state = .halting → exec .queueHalt s = .next (u.answered r .ok [])) ∧
      (∀ b, (s.queue q).state = .active → (s.queue q).openBatch = some b →
        exec .queueHalt s = .next ((((u.closeOpen q .halt).modQueue q h).trunkSelect (s.queue q).trunk).answered r .ok
          [])) ∧
      ((s.queue q).state = .active → (s.queue q).openBatch = none →
        ((s.queue q).ready ≠ [] ∨ (s.queue q).outstanding ≠ 0 ∨ (s.account q.acct).inUse ≠ 0 →
          exec .queueHalt s = .next ((u.modQueue q h).answered r .ok [])) ∧
        ((s.queue q).ready = [] → (s.queue q).outstanding = 0 → (s.account q.acct).inUse = 0 →
          exec .queueHalt s = .next (({ u.modQueue q (fun x => { x with state := .off, drain := none }) with
            events := { s.events with raised := s.events.raised ++ [{ block := .queueUnit, events :=
              [{ kind := .queueOff, subject := byteOf q.val, detail := 1 }] }] } } : State).answered r .ok []))))

/-- R89: QUEUE_PURGE; `gone` is what is released. (The model's: logs 4 and 8.) -/
def Obligations.QueuePurge : Prop :=
  ∀ (s u : State) (r : Request) (rest : List Request), u = s.taken r rest → s.admits r rest .queuePurge →
    (16 ≤ (r.op 0).toNat → exec .queuePurge s = .next (u.answered r .badIndex [])) ∧
    (∀ q : QueueId, (r.op 0).toNat = q.val →
      ((s.queue q).state = .off → exec .queuePurge s = .next (u.answered r .ok [0, 0])) ∧
      (∀ gone : List Batch, (s.queue q).state ≠ .off →
        gone = (s.queue q).openBatch.toList ++ (s.queue q).ready → ∃ v : State,
        exec .queuePurge s =
          .next (v.answered r .ok (be16n (gone.map fun b => b.members.length).sum)) ∧
        v = { u with pool := v.pool, queues := v.queues, events := v.events, counters := v.counters } ∧
        v.pool = (s.release q.acct (gone.map Batch.cells).sum gone.length).pool ∧
        v.counters = (u.countQueue q .framesPurged (gone.map fun b => b.members.length).sum).counters ∧
        (∀ i, i ≠ q → v.queue i = s.queue i) ∧
        ((s.queue q).state = .halting → (s.queue q).outstanding = 0 →
          (s.account q.acct).inUse ≤ (gone.map Batch.cells).sum →
          v.queue q = { s.queue q with state := .off, drain := none, openBatch := none, ready := [] } ∧
          v.events = { s.events with raised :=
            (s.release q.acct (gone.map Batch.cells).sum gone.length).events.raised ++ [{ block := .queueUnit, events :=
              [{ kind := .queueOff, subject := byteOf q.val, detail := 1 }] }] }) ∧
        ((s.queue q).state = .active ∨ (s.queue q).outstanding ≠ 0 ∨
            (gone.map Batch.cells).sum < (s.account q.acct).inUse →
          v.queue q = { s.queue q with openBatch := none, ready := [] } ∧
          v.events = (s.release q.acct (gone.map Batch.cells).sum gone.length).events)))

/-- R32 to R34: DIR_PIN, DIR_UNPIN and DIR_FLUSH. (The model's: log 8.) -/
def Obligations.DirectoryRequests : Prop :=
  ∀ (s u : State) (r : Request) (rest : List Request), u = s.taken r rest →
    (s.admits r rest .dirPin →
      (r.op16 0 = 0x0000 ∨ r.op16 0 = 0xFFFF ∨ 8 ≤ (r.op 2).toNat →
        exec .dirPin s = .next (u.answered r .badValue [])) ∧
      (r.op16 0 ≠ 0x0000 → r.op16 0 ≠ 0xFFFF → ∀ k : EdgeId, (r.op 2).toNat = k.val →
        (∀ i : DirPos, (∃ d, s.edge.lookup (r.op16 0) = some (i, d)) ∨
            (s.edge.lookup (r.op16 0) = none ∧ s.edge.freePosition = some i) →
          exec .dirPin s = .next (({ u with edge := { s.edge with
            directory := s.edge.directory.set i (some
              { addr := r.op16 0, port := k, origin := .pinned, lastSeen := s.edge.seconds }) } } : State).answered r .ok
            [byteOf i.val])) ∧
        (s.edge.lookup (r.op16 0) = none → s.edge.freePosition = none →
          exec .dirPin s = .next (u.answered r .noResource [])))) ∧
    (s.admits r rest .dirUnpin →
      (s.edge.lookup (r.op16 0) = none → exec .dirUnpin s = .next (u.answered r .badIndex [])) ∧
      (∀ i d, s.edge.lookup (r.op16 0) = some (i, d) →
        (d.origin = .learned → exec .dirUnpin s = .next (u.answered r .ok [0])) ∧
        (d.origin = .pinned → (s.link d.port.port).up = true →
          exec .dirUnpin s = .next (({ u with edge := { s.edge with
            directory := s.edge.directory.set i (some { d with origin := .learned, lastSeen := s.edge.seconds }) } } :
              State).answered r .ok [0])) ∧
        (d.origin = .pinned → (s.link d.port.port).up = false → ∃ e : Edge,
          exec .dirUnpin s = .next ({ u with edge := e }.answered r .ok [1]) ∧
          e = { s.edge with directory := s.edge.directory.set i none, fullRefusal := e.fullRefusal } ∧
          ((∀ j, (s.edge.directory.get j).isSome = true) → e.fullRefusal = false) ∧
          ((∃ j, s.edge.directory.get j = none) → e.fullRefusal = s.edge.fullRefusal)))) ∧
    (s.admits r rest .dirFlush → ∃ e : Edge,
      exec .dirFlush s = .next ({ u with edge := e }.answered r .ok
        [byteOf (s.edge.directory.list.filter fun (o : Option DirEntry) =>
          o.any fun (d : DirEntry) => d.origin == Origin.learned).length]) ∧
      e = { s.edge with directory := e.directory, fullRefusal := e.fullRefusal } ∧
      (∀ i, e.directory.get i =
        match s.edge.directory.get i with
        | none => none
        | some d => if d.origin = .learned then none else some d) ∧
      (e.fullRefusal = true ↔ s.edge.fullRefusal = true ∧
        ¬ ((∀ i, (s.edge.directory.get i).isSome = true) ∧ ∃ i, e.directory.get i = none)))

/-- R174, R175: SUBSCRIBE and UNSUBSCRIBE. (The model's: logs 8 and 24.) -/
def Obligations.SubscribeAndUnsubscribe : Prop :=
  ∀ (s u : State) (r : Request) (rest : List Request), u = s.taken r rest →
    (s.admits r rest .subscribe →
      (8 ≤ (r.op 0).toNat → exec .subscribe s = .next (u.answered r .badIndex [])) ∧
      ((r.op 0).toNat < 8 →
        12 ≤ (r.op 3).toNat ∨ r.op16 1 = 0x0000 ∨ r.op16 1 = 0xFFFF ∨ (r.op16 4).getLsbD 0 = true ∨
          (1 ≤ (r.op16 6).toNat ∧ (r.op16 6).toNat ≤ 99) ∨ 60000 < (r.op16 6).toNat →
        exec .subscribe s = .next (u.answered r .badValue [])) ∧
      (∀ (i : SlotId) (p : Port), (r.op 0).toNat = i.val → (r.op 3).toNat = p.val → r.op16 1 ≠ 0x0000 →
        r.op16 1 ≠ 0xFFFF → (r.op16 4).getLsbD 0 = false →
        (r.op16 6).toNat = 0 ∨ (100 ≤ (r.op16 6).toNat ∧ (r.op16 6).toNat ≤ 60000) →
        exec .subscribe s = .next ((u.modSlot i fun _ =>
          { inUse := true, addr := r.op16 1, port := p, kindSet := r.op16 4, repeatInterval := (r.op16 6).toNat,
            noteSeq := 0, owed := 0, pending := 0, recurred := 0, repeatDeadline := none }).answered r .ok []))) ∧
    (s.admits r rest .unsubscribe →
      (8 ≤ (r.op 0).toNat → exec .unsubscribe s = .next (u.answered r .badIndex [])) ∧
      (∀ i : SlotId, (r.op 0).toNat = i.val →
        ((s.slot i).inUse = false → exec .unsubscribe s = .next (u.answered r .ok [])) ∧
        ((s.slot i).inUse = true → ∃ x : Slot,
          exec .unsubscribe s = .next ((u.modSlot i fun _ => x).answered r .ok []) ∧
          x.inUse = false ∧ x.owed = 0 ∧ x.pending = 0 ∧ x.recurred = 0 ∧ x.repeatDeadline = none)))

/-- R179: EVENT_ACK. (The model's: log 8.) -/
def Obligations.EventAckMovesKinds : Prop :=
  ∀ (s u : State) (r : Request) (rest : List Request), u = s.taken r rest → s.admits r rest .eventAck →
    (8 ≤ (r.op 0).toNat → exec .eventAck s = .next (u.answered r .badIndex [])) ∧
    (∀ i : SlotId, (r.op 0).toNat = i.val →
      ((s.slot i).inUse = false ∨ r.src ≠ (s.slot i).addr → exec .eventAck s = .next (u.answered r .notOwner [])) ∧
      ((s.slot i).inUse = true → r.src = (s.slot i).addr → ∃ x : Slot,
        x = { s.slot i with
          pending := (s.slot i).pending &&& ~~~(r.op16 1)
          recurred := (s.slot i).recurred &&& ~~~(r.op16 1 &&& (s.slot i).pending)
          owed := (s.slot i).owed ||| (r.op16 1 &&& (s.slot i).pending &&& (s.slot i).recurred)
          repeatDeadline :=
            if (s.slot i).pending &&& ~~~(r.op16 1) = 0 then none else (s.slot i).repeatDeadline } ∧
        (x.owed = 0 → exec .eventAck s = .next ((u.modSlot i fun _ => x).answered r .ok [])) ∧
        (x.owed ≠ 0 → exec .eventAck s =
          .next (((u.modSlot i fun _ => x).opportunity (s.slot i).port).answered r .ok []))))

/-- R170, R172: READ_EVENTS and READ_EVENTS_TAKE; `n` is the maximum count. (The model's: log 8.) -/
def Obligations.ReadEventsAnswer : Prop :=
  ∀ (s u : State) (r : Request) (rest : List Request) (n : Nat) (data : List Byte), u = s.taken r rest →
    s.admits r rest .readEvents → n = (r.op 0).toNat →
    data = be32 s.events.lost ++ (s.events.records.take n).flatMap (fun e =>
      [byteOf e.kind.code, e.subject] ++ be32 e.detail ++ be32 e.time) →
    (n = 0 ∨ 16 < n →
      (r.flags.getLsbD 0 = false → exec .readEvents s = .next (u.answered r .badValue [])) ∧
      (r.flags.getLsbD 0 = true → exec .readEventsTake s = .next (u.answered r .badValue []))) ∧
    (1 ≤ n → n ≤ 16 →
      (r.flags.getLsbD 0 = false → exec .readEvents s = .next (u.answered r .ok data)) ∧
      (r.flags.getLsbD 0 = true → exec .readEventsTake s = .next
        (({ u with events := { s.events with
          records := s.events.records.drop n
          lost := if r.flags.getLsbD 1 then 0 else s.events.lost } } : State).answered r .ok data)))

/-- R92, R115, R163: the place of each counter in its group. R162 to R164: what a count does; READ_COUNTERS and
READ_COUNTERS_CLEAR by group and instance (the copy is taken after the taking itself has been counted). (The model's:
log 8.) -/
def Obligations.CountersCountAndAnswer : Prop :=
  (([.receiveGood, .aborted, .length, .oversize, .badCheck, .badKind, .badSource, .notLocal, .wrongPort, .portDisabled,
      .notDeliverable, .controlLost, .steerMiss, .steerDiscard, .pinnedMismatch, .learnRefused, .returnFull, .noCells,
      .returnLost, .framesSent] : List PortCounter).map PortCounter.index = List.finRange 20) ∧
  (([.admitted, .queueNotActive, .noCells, .noBatch, .closedSize, .closedCount, .closedAge, .closedFlush, .closedHalt,
      .framesPurged, .framesAbandoned, .framesDelivered, .bundlesAcked] : List QueueCounter).map QueueCounter.index =
    List.finRange 13) ∧
  (([.bundlesSent, .retransmissions, .bundlesAbandoned, .staleAck, .malformedAck, .controlSent, .transmitAborted] :
    List TrunkCounter).map TrunkCounter.index = List.finRange 7) ∧
  (([.mgmtDropped, .responseLost, .requestsTaken, .notesSent, .notesRefused] : List MgmtCounter).map MgmtCounter.index =
    List.finRange 5) ∧
  (∀ (s : State) (p : Port) (c : PortCounter), s.portCounter p c = (s.counters.port.get p).get c.index) ∧
  (∀ (s : State) (q : QueueId) (c : QueueCounter), s.queueCounter q c = (s.counters.queue.get q).get c.index) ∧
  (∀ (s : State) (t : TrunkId) (c : TrunkCounter), s.trunkCounter t c = (s.counters.trunk.get t).get c.index) ∧
  (∀ (s : State) (c : MgmtCounter), s.mgmtCounter c = s.counters.mgmt.get c.index) ∧
  (∀ (v : Word) (n : Nat), (satAdd v n).toNat = min (v.toNat + n) 4294967295) ∧
  (∀ (s : State) (p : Port) (c : PortCounter) (n : Nat), s.countPort p c n = { s with counters := { s.counters with
    port := s.counters.port.set p ((s.counters.port.get p).set c.index (satAdd (s.portCounter p c) n)) } }) ∧
  (∀ (s : State) (q : QueueId) (c : QueueCounter) (n : Nat), s.countQueue q c n = { s with counters := { s.counters with
    queue := s.counters.queue.set q ((s.counters.queue.get q).set c.index (satAdd (s.queueCounter q c) n)) } }) ∧
  (∀ (s : State) (t : TrunkId) (c : TrunkCounter) (n : Nat), s.countTrunk t c n = { s with counters := { s.counters with
    trunk := s.counters.trunk.set t ((s.counters.trunk.get t).set c.index (satAdd (s.trunkCounter t c) n)) } }) ∧
  (∀ (s : State) (c : MgmtCounter) (n : Nat), s.countMgmt c n = { s with counters := { s.counters with
    mgmt := s.counters.mgmt.set c.index (satAdd (s.mgmtCounter c) n) } }) ∧
  ∀ (s u : State) (r : Request) (rest : List Request), u = s.taken r rest → s.admits r rest .readCounters →
    (∀ p : Port, (r.op 0).toNat = 1 → (r.op 1).toNat = p.val →
      (r.flags.getLsbD 0 = false →
        exec .readCounters s = .next (u.answered r .ok ((u.counters.port.get p).list.flatMap be32))) ∧
      (r.flags.getLsbD 0 = true → exec .readCountersClear s = .next (({ u with counters := { u.counters with
        port := u.counters.port.set p (.replicate 20 0) } } : State).answered r .ok
          ((u.counters.port.get p).list.flatMap be32)))) ∧
    (∀ q : QueueId, (r.op 0).toNat = 2 → (r.op 1).toNat = q.val →
      (r.flags.getLsbD 0 = false →
        exec .readCounters s = .next (u.answered r .ok ((u.counters.queue.get q).list.flatMap be32))) ∧
      (r.flags.getLsbD 0 = true → exec .readCountersClear s = .next (({ u with counters := { u.counters with
        queue := u.counters.queue.set q (.replicate 13 0) } } : State).answered r .ok
          ((u.counters.queue.get q).list.flatMap be32)))) ∧
    (∀ t : TrunkId, (r.op 0).toNat = 4 → (r.op 1).toNat = 8 + t.val →
      (r.flags.getLsbD 0 = false →
        exec .readCounters s = .next (u.answered r .ok ((u.counters.trunk.get t).list.flatMap be32))) ∧
      (r.flags.getLsbD 0 = true → exec .readCountersClear s = .next (({ u with counters := { u.counters with
        trunk := u.counters.trunk.set t (.replicate 7 0) } } : State).answered r .ok
          ((u.counters.trunk.get t).list.flatMap be32)))) ∧
    ((r.op 0).toNat = 5 → (r.op 1).toNat = 0 →
      (r.flags.getLsbD 0 = false →
        exec .readCounters s = .next (u.answered r .ok (u.counters.mgmt.list.flatMap be32))) ∧
      (r.flags.getLsbD 0 = true → exec .readCountersClear s = .next (({ u with counters := { u.counters with
        mgmt := .replicate 5 0 } } : State).answered r .ok (u.counters.mgmt.list.flatMap be32)))) ∧
    (¬ ((r.op 0).toNat = 1 ∧ (r.op 1).toNat < 12) → ¬ ((r.op 0).toNat = 2 ∧ (r.op 1).toNat < 16) →
      ¬ ((r.op 0).toNat = 4 ∧ 8 ≤ (r.op 1).toNat ∧ (r.op 1).toNat < 12) → ¬ ((r.op 0).toNat = 5 ∧ (r.op 1).toNat = 0) →
      (r.flags.getLsbD 0 = false → exec .readCounters s = .next (u.answered r .badIndex [])) ∧
      (r.flags.getLsbD 0 = true → exec .readCountersClear s = .next (u.answered r .badIndex [])))

/-- R152: RESTART: the OK response is placed, waits, or is lost. That the restart is due, and begins at the next
RESTART_BEGIN, is log 7. (The model's: log 8.) -/
def Obligations.RestartRequest : Prop :=
  ∀ (s u : State) (r : Request) (rest : List Request) (c : ControlFrame), u = s.taken r rest → s.admits r rest .restart →
    c = { restart := true, frame :=
      { kind := 0x04, tag := 0, dst := r.src, src := s.ownAddress, seq := 0, flags := 0,
        payload := [byteAt r.payload 0, byteAt r.payload 1, 0x19, 0, 0, 0] } } →
    ((s.link r.port).up = true → (s.link r.port).control.length < 8 → exec .restart s = .next
      (({ u with mgmt := { u.mgmt with mode := .restartWait } }.modLink r.port fun l =>
        { l with control := l.control ++ [c] }).select r.port)) ∧
    ((s.link r.port).up = true → 8 ≤ (s.link r.port).control.length → exec .restart s = .next
      { u with mgmt := { u.mgmt with mode := .responseWait c r.port (s.now + BitVec.ofNat 32 10000) } }) ∧
    ((s.link r.port).up = false → exec .restart s = .next { u with mgmt := { u.mgmt with mode := .restartDue } })

/-! ### Invariants -/

/-- R136: the capacities hold in every state that a step leaves, if they held before it. -/
def Obligations.CapacitiesKept : Prop := ∀ s t : State, Capacities s → step s = .next t → Capacities t

/-- R173: the sets of the subscriber slots stay consistent. -/
def Obligations.SlotSetsKept : Prop := ∀ s t : State, SlotSets s → step s = .next t → SlotSets t

/-- R26, R30: a node address stands at most once, and the full-refusal flag is set only while the directory is full.
-/
def Obligations.DirectoryKept : Prop := ∀ s t : State, DirectoryOk s → step s = .next t → DirectoryOk t

/-- R8, R96, R117, R118: transmitters, trunk states and delivery windows. -/
def Obligations.TrunksAndWindowsKept : Prop := ∀ s t : State, TrunkInv s → step s = .next t → TrunkInv t

/-- R58, R60, R61, R66, R69, R76: every cell and every descriptor is free or held exactly once, no account passes its
cap, shared free is never negative, and a queue in OFF holds nothing. -/
def Obligations.StorageKept : Prop :=
  ∀ s t : State, TrunkInv s → StorageInv s → step s = .next t → StorageInv t

/-- The invariants hold right after a hard reset. (The model's: log 12.) -/
def Obligations.InvariantsAtReset : Prop :=
  Capacities State.reset ∧ SlotSets State.reset ∧ DirectoryOk State.reset ∧ TrunkInv State.reset ∧
    StorageInv State.reset
end

