-- ==== Sys2Proof/Laws/Tab.lean ====
section
/-! SUPPORT. What reading a table gives after each operation on it. -/

namespace Sys2Proof.Tab
variable {α : Type} {n : Nat}

@[simp] theorem get_set_self (t : Tab α n) (i : Fin n) (x : α) : (t.set i x).get i = x := by
  simp [get, set]

@[simp] theorem get_set_ne (t : Tab α n) {i j : Fin n} (x : α) (h : j ≠ i) : (t.set i x).get j = t.get j := by
  have h' : i.val ≠ j.val := fun e => h (Fin.ext e.symm)
  simp [get, set, List.getElem_set_ne h']

theorem get_set (t : Tab α n) (i j : Fin n) (x : α) : (t.set i x).get j = if j = i then x else t.get j := by
  by_cases h : j = i
  · subst h; simp
  · simp [h]

@[simp] theorem get_upd_self (t : Tab α n) (i : Fin n) (f : α → α) : (t.upd i f).get i = f (t.get i) := by
  simp [upd]

@[simp] theorem get_upd_ne (t : Tab α n) {i j : Fin n} (f : α → α) (h : j ≠ i) : (t.upd i f).get j = t.get j := by
  simp [upd, h]

theorem get_upd (t : Tab α n) (i j : Fin n) (f : α → α) : (t.upd i f).get j = if j = i then f (t.get i) else t.get j := by
  simp [upd, get_set]

@[simp] theorem get_map (t : Tab α n) (f : α → α) (i : Fin n) : (t.map f).get i = f (t.get i) := by
  simp [get, map]

@[simp] theorem get_ofFn (f : Fin n → α) (i : Fin n) : (ofFn f).get i = f i := by
  simp [get, ofFn]

@[simp] theorem get_replicate (x : α) (i : Fin n) : (replicate n x).get i = x := by
  simp [get, replicate]

/-- Two tables with the same entries are equal. -/
theorem ext_get {s t : Tab α n} (h : ∀ i, s.get i = t.get i) : s = t := by
  obtain ⟨l, hl⟩ := s
  obtain ⟨m, hm⟩ := t
  have : l = m := by
    apply List.ext_getElem (by omega)
    intro i h1 h2
    simpa [get] using h ⟨i, by omega⟩
  subst this
  rfl

@[simp] theorem set_get (t : Tab α n) (i : Fin n) : t.set i (t.get i) = t :=
  ext_get fun j => by by_cases h : j = i <;> simp_all

@[simp] theorem upd_id (t : Tab α n) (i : Fin n) : (t.upd i fun x => x) = t := by
  simp [upd]

@[simp] theorem length_entries (t : Tab α n) : t.entries.length = n := by
  simp [entries, t.len]

/-- The places of a table are its entries with their numbers. -/
theorem mem_entries {t : Tab α n} {i : Fin n} {x : α} : (i, x) ∈ t.entries ↔ t.get i = x := by
  unfold entries get
  rw [List.mem_iff_getElem]
  constructor
  · rintro ⟨k, hk, h⟩
    simp only [List.getElem_zip, List.getElem_finRange, Prod.mk.injEq] at h
    obtain ⟨h1, h2⟩ := h
    subst h1
    simpa using h2
  · intro h
    refine ⟨i.val, by simp [t.len], ?_⟩
    simp [h]

theorem mem_list {t : Tab α n} {x : α} : x ∈ t.list ↔ ∃ i, t.get i = x := by
  rw [List.mem_iff_getElem]
  constructor
  · rintro ⟨k, hk, h⟩
    exact ⟨⟨k, by rw [← t.len]; exact hk⟩, h⟩
  · rintro ⟨i, h⟩
    exact ⟨i.val, by rw [t.len]; exact i.isLt, h⟩

end Sys2Proof.Tab
end

