-- ==== Sys2Proof/Laws/State.lean ====
section
/-! SUPPORT. One lemma per field of the state for each way of changing one part of it: the part named changes as said,
every other field is as before. And the same for the parts read by number (`link`, `queue`, `trunk`, ...). -/

namespace Sys2Proof.Machine
variable (s : State)

@[simp] theorem modLink_pending (p : Port) (f : Link → Link) : (s.modLink p f).pending = s.pending := rfl
@[simp] theorem modLink_resetLow (p : Port) (f : Link → Link) : (s.modLink p f).resetLow = s.resetLow := rfl
@[simp] theorem modLink_now (p : Port) (f : Link → Link) : (s.modLink p f).now = s.now := rfl
@[simp] theorem modLink_ownAddress (p : Port) (f : Link → Link) : (s.modLink p f).ownAddress = s.ownAddress := rfl
@[simp] theorem modLink_links (p : Port) (f : Link → Link) : (s.modLink p f).links = s.links.upd p f := rfl
@[simp] theorem modLink_edge (p : Port) (f : Link → Link) : (s.modLink p f).edge = s.edge := rfl
@[simp] theorem modLink_steer (p : Port) (f : Link → Link) : (s.modLink p f).steer = s.steer := rfl
@[simp] theorem modLink_pool (p : Port) (f : Link → Link) : (s.modLink p f).pool = s.pool := rfl
@[simp] theorem modLink_queues (p : Port) (f : Link → Link) : (s.modLink p f).queues = s.queues := rfl
@[simp] theorem modLink_profiles (p : Port) (f : Link → Link) : (s.modLink p f).profiles = s.profiles := rfl
@[simp] theorem modLink_trunks (p : Port) (f : Link → Link) : (s.modLink p f).trunks = s.trunks := rfl
@[simp] theorem modLink_mgmt (p : Port) (f : Link → Link) : (s.modLink p f).mgmt = s.mgmt := rfl
@[simp] theorem modLink_events (p : Port) (f : Link → Link) : (s.modLink p f).events = s.events := rfl
@[simp] theorem modLink_counters (p : Port) (f : Link → Link) : (s.modLink p f).counters = s.counters := rfl

@[simp] theorem modEdge_pending (f : Edge → Edge) : (s.modEdge f).pending = s.pending := rfl
@[simp] theorem modEdge_resetLow (f : Edge → Edge) : (s.modEdge f).resetLow = s.resetLow := rfl
@[simp] theorem modEdge_now (f : Edge → Edge) : (s.modEdge f).now = s.now := rfl
@[simp] theorem modEdge_ownAddress (f : Edge → Edge) : (s.modEdge f).ownAddress = s.ownAddress := rfl
@[simp] theorem modEdge_links (f : Edge → Edge) : (s.modEdge f).links = s.links := rfl
@[simp] theorem modEdge_edge (f : Edge → Edge) : (s.modEdge f).edge = f s.edge := rfl
@[simp] theorem modEdge_steer (f : Edge → Edge) : (s.modEdge f).steer = s.steer := rfl
@[simp] theorem modEdge_pool (f : Edge → Edge) : (s.modEdge f).pool = s.pool := rfl
@[simp] theorem modEdge_queues (f : Edge → Edge) : (s.modEdge f).queues = s.queues := rfl
@[simp] theorem modEdge_profiles (f : Edge → Edge) : (s.modEdge f).profiles = s.profiles := rfl
@[simp] theorem modEdge_trunks (f : Edge → Edge) : (s.modEdge f).trunks = s.trunks := rfl
@[simp] theorem modEdge_mgmt (f : Edge → Edge) : (s.modEdge f).mgmt = s.mgmt := rfl
@[simp] theorem modEdge_events (f : Edge → Edge) : (s.modEdge f).events = s.events := rfl
@[simp] theorem modEdge_counters (f : Edge → Edge) : (s.modEdge f).counters = s.counters := rfl

@[simp] theorem modSteer_pending (f : Steer → Steer) : (s.modSteer f).pending = s.pending := rfl
@[simp] theorem modSteer_resetLow (f : Steer → Steer) : (s.modSteer f).resetLow = s.resetLow := rfl
@[simp] theorem modSteer_now (f : Steer → Steer) : (s.modSteer f).now = s.now := rfl
@[simp] theorem modSteer_ownAddress (f : Steer → Steer) : (s.modSteer f).ownAddress = s.ownAddress := rfl
@[simp] theorem modSteer_links (f : Steer → Steer) : (s.modSteer f).links = s.links := rfl
@[simp] theorem modSteer_edge (f : Steer → Steer) : (s.modSteer f).edge = s.edge := rfl
@[simp] theorem modSteer_steer (f : Steer → Steer) : (s.modSteer f).steer = f s.steer := rfl
@[simp] theorem modSteer_pool (f : Steer → Steer) : (s.modSteer f).pool = s.pool := rfl
@[simp] theorem modSteer_queues (f : Steer → Steer) : (s.modSteer f).queues = s.queues := rfl
@[simp] theorem modSteer_profiles (f : Steer → Steer) : (s.modSteer f).profiles = s.profiles := rfl
@[simp] theorem modSteer_trunks (f : Steer → Steer) : (s.modSteer f).trunks = s.trunks := rfl
@[simp] theorem modSteer_mgmt (f : Steer → Steer) : (s.modSteer f).mgmt = s.mgmt := rfl
@[simp] theorem modSteer_events (f : Steer → Steer) : (s.modSteer f).events = s.events := rfl
@[simp] theorem modSteer_counters (f : Steer → Steer) : (s.modSteer f).counters = s.counters := rfl

@[simp] theorem modPool_pending (f : Pool → Pool) : (s.modPool f).pending = s.pending := rfl
@[simp] theorem modPool_resetLow (f : Pool → Pool) : (s.modPool f).resetLow = s.resetLow := rfl
@[simp] theorem modPool_now (f : Pool → Pool) : (s.modPool f).now = s.now := rfl
@[simp] theorem modPool_ownAddress (f : Pool → Pool) : (s.modPool f).ownAddress = s.ownAddress := rfl
@[simp] theorem modPool_links (f : Pool → Pool) : (s.modPool f).links = s.links := rfl
@[simp] theorem modPool_edge (f : Pool → Pool) : (s.modPool f).edge = s.edge := rfl
@[simp] theorem modPool_steer (f : Pool → Pool) : (s.modPool f).steer = s.steer := rfl
@[simp] theorem modPool_pool (f : Pool → Pool) : (s.modPool f).pool = f s.pool := rfl
@[simp] theorem modPool_queues (f : Pool → Pool) : (s.modPool f).queues = s.queues := rfl
@[simp] theorem modPool_profiles (f : Pool → Pool) : (s.modPool f).profiles = s.profiles := rfl
@[simp] theorem modPool_trunks (f : Pool → Pool) : (s.modPool f).trunks = s.trunks := rfl
@[simp] theorem modPool_mgmt (f : Pool → Pool) : (s.modPool f).mgmt = s.mgmt := rfl
@[simp] theorem modPool_events (f : Pool → Pool) : (s.modPool f).events = s.events := rfl
@[simp] theorem modPool_counters (f : Pool → Pool) : (s.modPool f).counters = s.counters := rfl

@[simp] theorem modQueue_pending (q : QueueId) (f : Queue → Queue) : (s.modQueue q f).pending = s.pending := rfl
@[simp] theorem modQueue_resetLow (q : QueueId) (f : Queue → Queue) : (s.modQueue q f).resetLow = s.resetLow := rfl
@[simp] theorem modQueue_now (q : QueueId) (f : Queue → Queue) : (s.modQueue q f).now = s.now := rfl
@[simp] theorem modQueue_ownAddress (q : QueueId) (f : Queue → Queue) : (s.modQueue q f).ownAddress = s.ownAddress := rfl
@[simp] theorem modQueue_links (q : QueueId) (f : Queue → Queue) : (s.modQueue q f).links = s.links := rfl
@[simp] theorem modQueue_edge (q : QueueId) (f : Queue → Queue) : (s.modQueue q f).edge = s.edge := rfl
@[simp] theorem modQueue_steer (q : QueueId) (f : Queue → Queue) : (s.modQueue q f).steer = s.steer := rfl
@[simp] theorem modQueue_pool (q : QueueId) (f : Queue → Queue) : (s.modQueue q f).pool = s.pool := rfl
@[simp] theorem modQueue_queues (q : QueueId) (f : Queue → Queue) : (s.modQueue q f).queues = s.queues.upd q f := rfl
@[simp] theorem modQueue_profiles (q : QueueId) (f : Queue → Queue) : (s.modQueue q f).profiles = s.profiles := rfl
@[simp] theorem modQueue_trunks (q : QueueId) (f : Queue → Queue) : (s.modQueue q f).trunks = s.trunks := rfl
@[simp] theorem modQueue_mgmt (q : QueueId) (f : Queue → Queue) : (s.modQueue q f).mgmt = s.mgmt := rfl
@[simp] theorem modQueue_events (q : QueueId) (f : Queue → Queue) : (s.modQueue q f).events = s.events := rfl
@[simp] theorem modQueue_counters (q : QueueId) (f : Queue → Queue) : (s.modQueue q f).counters = s.counters := rfl

@[simp] theorem modProfile_pending (i : ProfileId) (f : Profile → Profile) : (s.modProfile i f).pending = s.pending := rfl
@[simp] theorem modProfile_resetLow (i : ProfileId) (f : Profile → Profile) : (s.modProfile i f).resetLow = s.resetLow := rfl
@[simp] theorem modProfile_now (i : ProfileId) (f : Profile → Profile) : (s.modProfile i f).now = s.now := rfl
@[simp] theorem modProfile_ownAddress (i : ProfileId) (f : Profile → Profile) : (s.modProfile i f).ownAddress = s.ownAddress := rfl
@[simp] theorem modProfile_links (i : ProfileId) (f : Profile → Profile) : (s.modProfile i f).links = s.links := rfl
@[simp] theorem modProfile_edge (i : ProfileId) (f : Profile → Profile) : (s.modProfile i f).edge = s.edge := rfl
@[simp] theorem modProfile_steer (i : ProfileId) (f : Profile → Profile) : (s.modProfile i f).steer = s.steer := rfl
@[simp] theorem modProfile_pool (i : ProfileId) (f : Profile → Profile) : (s.modProfile i f).pool = s.pool := rfl
@[simp] theorem modProfile_queues (i : ProfileId) (f : Profile → Profile) : (s.modProfile i f).queues = s.queues := rfl
@[simp] theorem modProfile_profiles (i : ProfileId) (f : Profile → Profile) : (s.modProfile i f).profiles = s.profiles.upd i f := rfl
@[simp] theorem modProfile_trunks (i : ProfileId) (f : Profile → Profile) : (s.modProfile i f).trunks = s.trunks := rfl
@[simp] theorem modProfile_mgmt (i : ProfileId) (f : Profile → Profile) : (s.modProfile i f).mgmt = s.mgmt := rfl
@[simp] theorem modProfile_events (i : ProfileId) (f : Profile → Profile) : (s.modProfile i f).events = s.events := rfl
@[simp] theorem modProfile_counters (i : ProfileId) (f : Profile → Profile) : (s.modProfile i f).counters = s.counters := rfl

@[simp] theorem modTrunk_pending (t : TrunkId) (f : Trunk → Trunk) : (s.modTrunk t f).pending = s.pending := rfl
@[simp] theorem modTrunk_resetLow (t : TrunkId) (f : Trunk → Trunk) : (s.modTrunk t f).resetLow = s.resetLow := rfl
@[simp] theorem modTrunk_now (t : TrunkId) (f : Trunk → Trunk) : (s.modTrunk t f).now = s.now := rfl
@[simp] theorem modTrunk_ownAddress (t : TrunkId) (f : Trunk → Trunk) : (s.modTrunk t f).ownAddress = s.ownAddress := rfl
@[simp] theorem modTrunk_links (t : TrunkId) (f : Trunk → Trunk) : (s.modTrunk t f).links = s.links := rfl
@[simp] theorem modTrunk_edge (t : TrunkId) (f : Trunk → Trunk) : (s.modTrunk t f).edge = s.edge := rfl
@[simp] theorem modTrunk_steer (t : TrunkId) (f : Trunk → Trunk) : (s.modTrunk t f).steer = s.steer := rfl
@[simp] theorem modTrunk_pool (t : TrunkId) (f : Trunk → Trunk) : (s.modTrunk t f).pool = s.pool := rfl
@[simp] theorem modTrunk_queues (t : TrunkId) (f : Trunk → Trunk) : (s.modTrunk t f).queues = s.queues := rfl
@[simp] theorem modTrunk_profiles (t : TrunkId) (f : Trunk → Trunk) : (s.modTrunk t f).profiles = s.profiles := rfl
@[simp] theorem modTrunk_trunks (t : TrunkId) (f : Trunk → Trunk) : (s.modTrunk t f).trunks = s.trunks.upd t f := rfl
@[simp] theorem modTrunk_mgmt (t : TrunkId) (f : Trunk → Trunk) : (s.modTrunk t f).mgmt = s.mgmt := rfl
@[simp] theorem modTrunk_events (t : TrunkId) (f : Trunk → Trunk) : (s.modTrunk t f).events = s.events := rfl
@[simp] theorem modTrunk_counters (t : TrunkId) (f : Trunk → Trunk) : (s.modTrunk t f).counters = s.counters := rfl

@[simp] theorem modMgmt_pending (f : Mgmt → Mgmt) : (s.modMgmt f).pending = s.pending := rfl
@[simp] theorem modMgmt_resetLow (f : Mgmt → Mgmt) : (s.modMgmt f).resetLow = s.resetLow := rfl
@[simp] theorem modMgmt_now (f : Mgmt → Mgmt) : (s.modMgmt f).now = s.now := rfl
@[simp] theorem modMgmt_ownAddress (f : Mgmt → Mgmt) : (s.modMgmt f).ownAddress = s.ownAddress := rfl
@[simp] theorem modMgmt_links (f : Mgmt → Mgmt) : (s.modMgmt f).links = s.links := rfl
@[simp] theorem modMgmt_edge (f : Mgmt → Mgmt) : (s.modMgmt f).edge = s.edge := rfl
@[simp] theorem modMgmt_steer (f : Mgmt → Mgmt) : (s.modMgmt f).steer = s.steer := rfl
@[simp] theorem modMgmt_pool (f : Mgmt → Mgmt) : (s.modMgmt f).pool = s.pool := rfl
@[simp] theorem modMgmt_queues (f : Mgmt → Mgmt) : (s.modMgmt f).queues = s.queues := rfl
@[simp] theorem modMgmt_profiles (f : Mgmt → Mgmt) : (s.modMgmt f).profiles = s.profiles := rfl
@[simp] theorem modMgmt_trunks (f : Mgmt → Mgmt) : (s.modMgmt f).trunks = s.trunks := rfl
@[simp] theorem modMgmt_mgmt (f : Mgmt → Mgmt) : (s.modMgmt f).mgmt = f s.mgmt := rfl
@[simp] theorem modMgmt_events (f : Mgmt → Mgmt) : (s.modMgmt f).events = s.events := rfl
@[simp] theorem modMgmt_counters (f : Mgmt → Mgmt) : (s.modMgmt f).counters = s.counters := rfl

@[simp] theorem modEvents_pending (f : EventUnit → EventUnit) : (s.modEvents f).pending = s.pending := rfl
@[simp] theorem modEvents_resetLow (f : EventUnit → EventUnit) : (s.modEvents f).resetLow = s.resetLow := rfl
@[simp] theorem modEvents_now (f : EventUnit → EventUnit) : (s.modEvents f).now = s.now := rfl
@[simp] theorem modEvents_ownAddress (f : EventUnit → EventUnit) : (s.modEvents f).ownAddress = s.ownAddress := rfl
@[simp] theorem modEvents_links (f : EventUnit → EventUnit) : (s.modEvents f).links = s.links := rfl
@[simp] theorem modEvents_edge (f : EventUnit → EventUnit) : (s.modEvents f).edge = s.edge := rfl
@[simp] theorem modEvents_steer (f : EventUnit → EventUnit) : (s.modEvents f).steer = s.steer := rfl
@[simp] theorem modEvents_pool (f : EventUnit → EventUnit) : (s.modEvents f).pool = s.pool := rfl
@[simp] theorem modEvents_queues (f : EventUnit → EventUnit) : (s.modEvents f).queues = s.queues := rfl
@[simp] theorem modEvents_profiles (f : EventUnit → EventUnit) : (s.modEvents f).profiles = s.profiles := rfl
@[simp] theorem modEvents_trunks (f : EventUnit → EventUnit) : (s.modEvents f).trunks = s.trunks := rfl
@[simp] theorem modEvents_mgmt (f : EventUnit → EventUnit) : (s.modEvents f).mgmt = s.mgmt := rfl
@[simp] theorem modEvents_events (f : EventUnit → EventUnit) : (s.modEvents f).events = f s.events := rfl
@[simp] theorem modEvents_counters (f : EventUnit → EventUnit) : (s.modEvents f).counters = s.counters := rfl

@[simp] theorem modSlot_pending (i : SlotId) (f : Slot → Slot) : (s.modSlot i f).pending = s.pending := rfl
@[simp] theorem modSlot_resetLow (i : SlotId) (f : Slot → Slot) : (s.modSlot i f).resetLow = s.resetLow := rfl
@[simp] theorem modSlot_now (i : SlotId) (f : Slot → Slot) : (s.modSlot i f).now = s.now := rfl
@[simp] theorem modSlot_ownAddress (i : SlotId) (f : Slot → Slot) : (s.modSlot i f).ownAddress = s.ownAddress := rfl
@[simp] theorem modSlot_links (i : SlotId) (f : Slot → Slot) : (s.modSlot i f).links = s.links := rfl
@[simp] theorem modSlot_edge (i : SlotId) (f : Slot → Slot) : (s.modSlot i f).edge = s.edge := rfl
@[simp] theorem modSlot_steer (i : SlotId) (f : Slot → Slot) : (s.modSlot i f).steer = s.steer := rfl
@[simp] theorem modSlot_pool (i : SlotId) (f : Slot → Slot) : (s.modSlot i f).pool = s.pool := rfl
@[simp] theorem modSlot_queues (i : SlotId) (f : Slot → Slot) : (s.modSlot i f).queues = s.queues := rfl
@[simp] theorem modSlot_profiles (i : SlotId) (f : Slot → Slot) : (s.modSlot i f).profiles = s.profiles := rfl
@[simp] theorem modSlot_trunks (i : SlotId) (f : Slot → Slot) : (s.modSlot i f).trunks = s.trunks := rfl
@[simp] theorem modSlot_mgmt (i : SlotId) (f : Slot → Slot) : (s.modSlot i f).mgmt = s.mgmt := rfl
@[simp] theorem modSlot_events (i : SlotId) (f : Slot → Slot) : (s.modSlot i f).events = { s.events with slots := s.events.slots.upd i f } := rfl
@[simp] theorem modSlot_counters (i : SlotId) (f : Slot → Slot) : (s.modSlot i f).counters = s.counters := rfl

@[simp] theorem modCounters_pending (f : Counters → Counters) : (s.modCounters f).pending = s.pending := rfl
@[simp] theorem modCounters_resetLow (f : Counters → Counters) : (s.modCounters f).resetLow = s.resetLow := rfl
@[simp] theorem modCounters_now (f : Counters → Counters) : (s.modCounters f).now = s.now := rfl
@[simp] theorem modCounters_ownAddress (f : Counters → Counters) : (s.modCounters f).ownAddress = s.ownAddress := rfl
@[simp] theorem modCounters_links (f : Counters → Counters) : (s.modCounters f).links = s.links := rfl
@[simp] theorem modCounters_edge (f : Counters → Counters) : (s.modCounters f).edge = s.edge := rfl
@[simp] theorem modCounters_steer (f : Counters → Counters) : (s.modCounters f).steer = s.steer := rfl
@[simp] theorem modCounters_pool (f : Counters → Counters) : (s.modCounters f).pool = s.pool := rfl
@[simp] theorem modCounters_queues (f : Counters → Counters) : (s.modCounters f).queues = s.queues := rfl
@[simp] theorem modCounters_profiles (f : Counters → Counters) : (s.modCounters f).profiles = s.profiles := rfl
@[simp] theorem modCounters_trunks (f : Counters → Counters) : (s.modCounters f).trunks = s.trunks := rfl
@[simp] theorem modCounters_mgmt (f : Counters → Counters) : (s.modCounters f).mgmt = s.mgmt := rfl
@[simp] theorem modCounters_events (f : Counters → Counters) : (s.modCounters f).events = s.events := rfl
@[simp] theorem modCounters_counters (f : Counters → Counters) : (s.modCounters f).counters = f s.counters := rfl

@[simp] theorem countPort_pending (p : Port) (c : PortCounter) (n : Nat) : (s.countPort p c n).pending = s.pending := rfl
@[simp] theorem countPort_resetLow (p : Port) (c : PortCounter) (n : Nat) : (s.countPort p c n).resetLow = s.resetLow := rfl
@[simp] theorem countPort_now (p : Port) (c : PortCounter) (n : Nat) : (s.countPort p c n).now = s.now := rfl
@[simp] theorem countPort_ownAddress (p : Port) (c : PortCounter) (n : Nat) : (s.countPort p c n).ownAddress = s.ownAddress := rfl
@[simp] theorem countPort_links (p : Port) (c : PortCounter) (n : Nat) : (s.countPort p c n).links = s.links := rfl
@[simp] theorem countPort_edge (p : Port) (c : PortCounter) (n : Nat) : (s.countPort p c n).edge = s.edge := rfl
@[simp] theorem countPort_steer (p : Port) (c : PortCounter) (n : Nat) : (s.countPort p c n).steer = s.steer := rfl
@[simp] theorem countPort_pool (p : Port) (c : PortCounter) (n : Nat) : (s.countPort p c n).pool = s.pool := rfl
@[simp] theorem countPort_queues (p : Port) (c : PortCounter) (n : Nat) : (s.countPort p c n).queues = s.queues := rfl
@[simp] theorem countPort_profiles (p : Port) (c : PortCounter) (n : Nat) : (s.countPort p c n).profiles = s.profiles := rfl
@[simp] theorem countPort_trunks (p : Port) (c : PortCounter) (n : Nat) : (s.countPort p c n).trunks = s.trunks := rfl
@[simp] theorem countPort_mgmt (p : Port) (c : PortCounter) (n : Nat) : (s.countPort p c n).mgmt = s.mgmt := rfl
@[simp] theorem countPort_events (p : Port) (c : PortCounter) (n : Nat) : (s.countPort p c n).events = s.events := rfl

@[simp] theorem countQueue_pending (q : QueueId) (c : QueueCounter) (n : Nat) : (s.countQueue q c n).pending = s.pending := rfl
@[simp] theorem countQueue_resetLow (q : QueueId) (c : QueueCounter) (n : Nat) : (s.countQueue q c n).resetLow = s.resetLow := rfl
@[simp] theorem countQueue_now (q : QueueId) (c : QueueCounter) (n : Nat) : (s.countQueue q c n).now = s.now := rfl
@[simp] theorem countQueue_ownAddress (q : QueueId) (c : QueueCounter) (n : Nat) : (s.countQueue q c n).ownAddress = s.ownAddress := rfl
@[simp] theorem countQueue_links (q : QueueId) (c : QueueCounter) (n : Nat) : (s.countQueue q c n).links = s.links := rfl
@[simp] theorem countQueue_edge (q : QueueId) (c : QueueCounter) (n : Nat) : (s.countQueue q c n).edge = s.edge := rfl
@[simp] theorem countQueue_steer (q : QueueId) (c : QueueCounter) (n : Nat) : (s.countQueue q c n).steer = s.steer := rfl
@[simp] theorem countQueue_pool (q : QueueId) (c : QueueCounter) (n : Nat) : (s.countQueue q c n).pool = s.pool := rfl
@[simp] theorem countQueue_queues (q : QueueId) (c : QueueCounter) (n : Nat) : (s.countQueue q c n).queues = s.queues := rfl
@[simp] theorem countQueue_profiles (q : QueueId) (c : QueueCounter) (n : Nat) : (s.countQueue q c n).profiles = s.profiles := rfl
@[simp] theorem countQueue_trunks (q : QueueId) (c : QueueCounter) (n : Nat) : (s.countQueue q c n).trunks = s.trunks := rfl
@[simp] theorem countQueue_mgmt (q : QueueId) (c : QueueCounter) (n : Nat) : (s.countQueue q c n).mgmt = s.mgmt := rfl
@[simp] theorem countQueue_events (q : QueueId) (c : QueueCounter) (n : Nat) : (s.countQueue q c n).events = s.events := rfl

@[simp] theorem countTrunk_pending (t : TrunkId) (c : TrunkCounter) (n : Nat) : (s.countTrunk t c n).pending = s.pending := rfl
@[simp] theorem countTrunk_resetLow (t : TrunkId) (c : TrunkCounter) (n : Nat) : (s.countTrunk t c n).resetLow = s.resetLow := rfl
@[simp] theorem countTrunk_now (t : TrunkId) (c : TrunkCounter) (n : Nat) : (s.countTrunk t c n).now = s.now := rfl
@[simp] theorem countTrunk_ownAddress (t : TrunkId) (c : TrunkCounter) (n : Nat) : (s.countTrunk t c n).ownAddress = s.ownAddress := rfl
@[simp] theorem countTrunk_links (t : TrunkId) (c : TrunkCounter) (n : Nat) : (s.countTrunk t c n).links = s.links := rfl
@[simp] theorem countTrunk_edge (t : TrunkId) (c : TrunkCounter) (n : Nat) : (s.countTrunk t c n).edge = s.edge := rfl
@[simp] theorem countTrunk_steer (t : TrunkId) (c : TrunkCounter) (n : Nat) : (s.countTrunk t c n).steer = s.steer := rfl
@[simp] theorem countTrunk_pool (t : TrunkId) (c : TrunkCounter) (n : Nat) : (s.countTrunk t c n).pool = s.pool := rfl
@[simp] theorem countTrunk_queues (t : TrunkId) (c : TrunkCounter) (n : Nat) : (s.countTrunk t c n).queues = s.queues := rfl
@[simp] theorem countTrunk_profiles (t : TrunkId) (c : TrunkCounter) (n : Nat) : (s.countTrunk t c n).profiles = s.profiles := rfl
@[simp] theorem countTrunk_trunks (t : TrunkId) (c : TrunkCounter) (n : Nat) : (s.countTrunk t c n).trunks = s.trunks := rfl
@[simp] theorem countTrunk_mgmt (t : TrunkId) (c : TrunkCounter) (n : Nat) : (s.countTrunk t c n).mgmt = s.mgmt := rfl
@[simp] theorem countTrunk_events (t : TrunkId) (c : TrunkCounter) (n : Nat) : (s.countTrunk t c n).events = s.events := rfl

@[simp] theorem countMgmt_pending (c : MgmtCounter) (n : Nat) : (s.countMgmt c n).pending = s.pending := rfl
@[simp] theorem countMgmt_resetLow (c : MgmtCounter) (n : Nat) : (s.countMgmt c n).resetLow = s.resetLow := rfl
@[simp] theorem countMgmt_now (c : MgmtCounter) (n : Nat) : (s.countMgmt c n).now = s.now := rfl
@[simp] theorem countMgmt_ownAddress (c : MgmtCounter) (n : Nat) : (s.countMgmt c n).ownAddress = s.ownAddress := rfl
@[simp] theorem countMgmt_links (c : MgmtCounter) (n : Nat) : (s.countMgmt c n).links = s.links := rfl
@[simp] theorem countMgmt_edge (c : MgmtCounter) (n : Nat) : (s.countMgmt c n).edge = s.edge := rfl
@[simp] theorem countMgmt_steer (c : MgmtCounter) (n : Nat) : (s.countMgmt c n).steer = s.steer := rfl
@[simp] theorem countMgmt_pool (c : MgmtCounter) (n : Nat) : (s.countMgmt c n).pool = s.pool := rfl
@[simp] theorem countMgmt_queues (c : MgmtCounter) (n : Nat) : (s.countMgmt c n).queues = s.queues := rfl
@[simp] theorem countMgmt_profiles (c : MgmtCounter) (n : Nat) : (s.countMgmt c n).profiles = s.profiles := rfl
@[simp] theorem countMgmt_trunks (c : MgmtCounter) (n : Nat) : (s.countMgmt c n).trunks = s.trunks := rfl
@[simp] theorem countMgmt_mgmt (c : MgmtCounter) (n : Nat) : (s.countMgmt c n).mgmt = s.mgmt := rfl
@[simp] theorem countMgmt_events (c : MgmtCounter) (n : Nat) : (s.countMgmt c n).events = s.events := rfl

@[simp] theorem modLink_queue (p : Port) (f : Link → Link) (j : QueueId) : (s.modLink p f).queue j = s.queue j := rfl
@[simp] theorem modLink_trunk (p : Port) (f : Link → Link) (j : TrunkId) : (s.modLink p f).trunk j = s.trunk j := rfl
@[simp] theorem modLink_profile (p : Port) (f : Link → Link) (j : ProfileId) : (s.modLink p f).profile j = s.profile j := rfl
@[simp] theorem modLink_account (p : Port) (f : Link → Link) (j : AcctId) : (s.modLink p f).account j = s.account j := rfl
@[simp] theorem modLink_slot (p : Port) (f : Link → Link) (j : SlotId) : (s.modLink p f).slot j = s.slot j := rfl

@[simp] theorem modEdge_link (f : Edge → Edge) (j : Port) : (s.modEdge f).link j = s.link j := rfl
@[simp] theorem modEdge_queue (f : Edge → Edge) (j : QueueId) : (s.modEdge f).queue j = s.queue j := rfl
@[simp] theorem modEdge_trunk (f : Edge → Edge) (j : TrunkId) : (s.modEdge f).trunk j = s.trunk j := rfl
@[simp] theorem modEdge_profile (f : Edge → Edge) (j : ProfileId) : (s.modEdge f).profile j = s.profile j := rfl
@[simp] theorem modEdge_account (f : Edge → Edge) (j : AcctId) : (s.modEdge f).account j = s.account j := rfl
@[simp] theorem modEdge_slot (f : Edge → Edge) (j : SlotId) : (s.modEdge f).slot j = s.slot j := rfl

@[simp] theorem modSteer_link (f : Steer → Steer) (j : Port) : (s.modSteer f).link j = s.link j := rfl
@[simp] theorem modSteer_queue (f : Steer → Steer) (j : QueueId) : (s.modSteer f).queue j = s.queue j := rfl
@[simp] theorem modSteer_trunk (f : Steer → Steer) (j : TrunkId) : (s.modSteer f).trunk j = s.trunk j := rfl
@[simp] theorem modSteer_profile (f : Steer → Steer) (j : ProfileId) : (s.modSteer f).profile j = s.profile j := rfl
@[simp] theorem modSteer_account (f : Steer → Steer) (j : AcctId) : (s.modSteer f).account j = s.account j := rfl
@[simp] theorem modSteer_slot (f : Steer → Steer) (j : SlotId) : (s.modSteer f).slot j = s.slot j := rfl

@[simp] theorem modPool_link (f : Pool → Pool) (j : Port) : (s.modPool f).link j = s.link j := rfl
@[simp] theorem modPool_queue (f : Pool → Pool) (j : QueueId) : (s.modPool f).queue j = s.queue j := rfl
@[simp] theorem modPool_trunk (f : Pool → Pool) (j : TrunkId) : (s.modPool f).trunk j = s.trunk j := rfl
@[simp] theorem modPool_profile (f : Pool → Pool) (j : ProfileId) : (s.modPool f).profile j = s.profile j := rfl
@[simp] theorem modPool_slot (f : Pool → Pool) (j : SlotId) : (s.modPool f).slot j = s.slot j := rfl

@[simp] theorem modQueue_link (q : QueueId) (f : Queue → Queue) (j : Port) : (s.modQueue q f).link j = s.link j := rfl
@[simp] theorem modQueue_trunk (q : QueueId) (f : Queue → Queue) (j : TrunkId) : (s.modQueue q f).trunk j = s.trunk j := rfl
@[simp] theorem modQueue_profile (q : QueueId) (f : Queue → Queue) (j : ProfileId) : (s.modQueue q f).profile j = s.profile j := rfl
@[simp] theorem modQueue_account (q : QueueId) (f : Queue → Queue) (j : AcctId) : (s.modQueue q f).account j = s.account j := rfl
@[simp] theorem modQueue_slot (q : QueueId) (f : Queue → Queue) (j : SlotId) : (s.modQueue q f).slot j = s.slot j := rfl

@[simp] theorem modProfile_link (i : ProfileId) (f : Profile → Profile) (j : Port) : (s.modProfile i f).link j = s.link j := rfl
@[simp] theorem modProfile_queue (i : ProfileId) (f : Profile → Profile) (j : QueueId) : (s.modProfile i f).queue j = s.queue j := rfl
@[simp] theorem modProfile_trunk (i : ProfileId) (f : Profile → Profile) (j : TrunkId) : (s.modProfile i f).trunk j = s.trunk j := rfl
@[simp] theorem modProfile_account (i : ProfileId) (f : Profile → Profile) (j : AcctId) : (s.modProfile i f).account j = s.account j := rfl
@[simp] theorem modProfile_slot (i : ProfileId) (f : Profile → Profile) (j : SlotId) : (s.modProfile i f).slot j = s.slot j := rfl

@[simp] theorem modTrunk_link (t : TrunkId) (f : Trunk → Trunk) (j : Port) : (s.modTrunk t f).link j = s.link j := rfl
@[simp] theorem modTrunk_queue (t : TrunkId) (f : Trunk → Trunk) (j : QueueId) : (s.modTrunk t f).queue j = s.queue j := rfl
@[simp] theorem modTrunk_profile (t : TrunkId) (f : Trunk → Trunk) (j : ProfileId) : (s.modTrunk t f).profile j = s.profile j := rfl
@[simp] theorem modTrunk_account (t : TrunkId) (f : Trunk → Trunk) (j : AcctId) : (s.modTrunk t f).account j = s.account j := rfl
@[simp] theorem modTrunk_slot (t : TrunkId) (f : Trunk → Trunk) (j : SlotId) : (s.modTrunk t f).slot j = s.slot j := rfl

@[simp] theorem modMgmt_link (f : Mgmt → Mgmt) (j : Port) : (s.modMgmt f).link j = s.link j := rfl
@[simp] theorem modMgmt_queue (f : Mgmt → Mgmt) (j : QueueId) : (s.modMgmt f).queue j = s.queue j := rfl
@[simp] theorem modMgmt_trunk (f : Mgmt → Mgmt) (j : TrunkId) : (s.modMgmt f).trunk j = s.trunk j := rfl
@[simp] theorem modMgmt_profile (f : Mgmt → Mgmt) (j : ProfileId) : (s.modMgmt f).profile j = s.profile j := rfl
@[simp] theorem modMgmt_account (f : Mgmt → Mgmt) (j : AcctId) : (s.modMgmt f).account j = s.account j := rfl
@[simp] theorem modMgmt_slot (f : Mgmt → Mgmt) (j : SlotId) : (s.modMgmt f).slot j = s.slot j := rfl

@[simp] theorem modEvents_link (f : EventUnit → EventUnit) (j : Port) : (s.modEvents f).link j = s.link j := rfl
@[simp] theorem modEvents_queue (f : EventUnit → EventUnit) (j : QueueId) : (s.modEvents f).queue j = s.queue j := rfl
@[simp] theorem modEvents_trunk (f : EventUnit → EventUnit) (j : TrunkId) : (s.modEvents f).trunk j = s.trunk j := rfl
@[simp] theorem modEvents_profile (f : EventUnit → EventUnit) (j : ProfileId) : (s.modEvents f).profile j = s.profile j := rfl
@[simp] theorem modEvents_account (f : EventUnit → EventUnit) (j : AcctId) : (s.modEvents f).account j = s.account j := rfl

@[simp] theorem modSlot_link (i : SlotId) (f : Slot → Slot) (j : Port) : (s.modSlot i f).link j = s.link j := rfl
@[simp] theorem modSlot_queue (i : SlotId) (f : Slot → Slot) (j : QueueId) : (s.modSlot i f).queue j = s.queue j := rfl
@[simp] theorem modSlot_trunk (i : SlotId) (f : Slot → Slot) (j : TrunkId) : (s.modSlot i f).trunk j = s.trunk j := rfl
@[simp] theorem modSlot_profile (i : SlotId) (f : Slot → Slot) (j : ProfileId) : (s.modSlot i f).profile j = s.profile j := rfl
@[simp] theorem modSlot_account (i : SlotId) (f : Slot → Slot) (j : AcctId) : (s.modSlot i f).account j = s.account j := rfl

@[simp] theorem modCounters_link (f : Counters → Counters) (j : Port) : (s.modCounters f).link j = s.link j := rfl
@[simp] theorem modCounters_queue (f : Counters → Counters) (j : QueueId) : (s.modCounters f).queue j = s.queue j := rfl
@[simp] theorem modCounters_trunk (f : Counters → Counters) (j : TrunkId) : (s.modCounters f).trunk j = s.trunk j := rfl
@[simp] theorem modCounters_profile (f : Counters → Counters) (j : ProfileId) : (s.modCounters f).profile j = s.profile j := rfl
@[simp] theorem modCounters_account (f : Counters → Counters) (j : AcctId) : (s.modCounters f).account j = s.account j := rfl
@[simp] theorem modCounters_slot (f : Counters → Counters) (j : SlotId) : (s.modCounters f).slot j = s.slot j := rfl

@[simp] theorem countPort_link (p : Port) (c : PortCounter) (n : Nat) (j : Port) : (s.countPort p c n).link j = s.link j := rfl
@[simp] theorem countPort_queue (p : Port) (c : PortCounter) (n : Nat) (j : QueueId) : (s.countPort p c n).queue j = s.queue j := rfl
@[simp] theorem countPort_trunk (p : Port) (c : PortCounter) (n : Nat) (j : TrunkId) : (s.countPort p c n).trunk j = s.trunk j := rfl
@[simp] theorem countPort_profile (p : Port) (c : PortCounter) (n : Nat) (j : ProfileId) : (s.countPort p c n).profile j = s.profile j := rfl
@[simp] theorem countPort_account (p : Port) (c : PortCounter) (n : Nat) (j : AcctId) : (s.countPort p c n).account j = s.account j := rfl
@[simp] theorem countPort_slot (p : Port) (c : PortCounter) (n : Nat) (j : SlotId) : (s.countPort p c n).slot j = s.slot j := rfl

@[simp] theorem countQueue_link (q : QueueId) (c : QueueCounter) (n : Nat) (j : Port) : (s.countQueue q c n).link j = s.link j := rfl
@[simp] theorem countQueue_queue (q : QueueId) (c : QueueCounter) (n : Nat) (j : QueueId) : (s.countQueue q c n).queue j = s.queue j := rfl
@[simp] theorem countQueue_trunk (q : QueueId) (c : QueueCounter) (n : Nat) (j : TrunkId) : (s.countQueue q c n).trunk j = s.trunk j := rfl
@[simp] theorem countQueue_profile (q : QueueId) (c : QueueCounter) (n : Nat) (j : ProfileId) : (s.countQueue q c n).profile j = s.profile j := rfl
@[simp] theorem countQueue_account (q : QueueId) (c : QueueCounter) (n : Nat) (j : AcctId) : (s.countQueue q c n).account j = s.account j := rfl
@[simp] theorem countQueue_slot (q : QueueId) (c : QueueCounter) (n : Nat) (j : SlotId) : (s.countQueue q c n).slot j = s.slot j := rfl

@[simp] theorem countTrunk_link (t : TrunkId) (c : TrunkCounter) (n : Nat) (j : Port) : (s.countTrunk t c n).link j = s.link j := rfl
@[simp] theorem countTrunk_queue (t : TrunkId) (c : TrunkCounter) (n : Nat) (j : QueueId) : (s.countTrunk t c n).queue j = s.queue j := rfl
@[simp] theorem countTrunk_trunk (t : TrunkId) (c : TrunkCounter) (n : Nat) (j : TrunkId) : (s.countTrunk t c n).trunk j = s.trunk j := rfl
@[simp] theorem countTrunk_profile (t : TrunkId) (c : TrunkCounter) (n : Nat) (j : ProfileId) : (s.countTrunk t c n).profile j = s.profile j := rfl
@[simp] theorem countTrunk_account (t : TrunkId) (c : TrunkCounter) (n : Nat) (j : AcctId) : (s.countTrunk t c n).account j = s.account j := rfl
@[simp] theorem countTrunk_slot (t : TrunkId) (c : TrunkCounter) (n : Nat) (j : SlotId) : (s.countTrunk t c n).slot j = s.slot j := rfl

@[simp] theorem countMgmt_link (c : MgmtCounter) (n : Nat) (j : Port) : (s.countMgmt c n).link j = s.link j := rfl
@[simp] theorem countMgmt_queue (c : MgmtCounter) (n : Nat) (j : QueueId) : (s.countMgmt c n).queue j = s.queue j := rfl
@[simp] theorem countMgmt_trunk (c : MgmtCounter) (n : Nat) (j : TrunkId) : (s.countMgmt c n).trunk j = s.trunk j := rfl
@[simp] theorem countMgmt_profile (c : MgmtCounter) (n : Nat) (j : ProfileId) : (s.countMgmt c n).profile j = s.profile j := rfl
@[simp] theorem countMgmt_account (c : MgmtCounter) (n : Nat) (j : AcctId) : (s.countMgmt c n).account j = s.account j := rfl
@[simp] theorem countMgmt_slot (c : MgmtCounter) (n : Nat) (j : SlotId) : (s.countMgmt c n).slot j = s.slot j := rfl

@[simp] theorem modLink_link_self (i : Port) (f : Link → Link) : (s.modLink i f).link i = f (s.link i) :=
  Tab.get_upd_self _ _ _
@[simp] theorem modLink_link_ne {i j : Port} (f : Link → Link) (h : j ≠ i) : (s.modLink i f).link j = s.link j :=
  Tab.get_upd_ne _ _ h

@[simp] theorem modQueue_queue_self (i : QueueId) (f : Queue → Queue) : (s.modQueue i f).queue i = f (s.queue i) :=
  Tab.get_upd_self _ _ _
@[simp] theorem modQueue_queue_ne {i j : QueueId} (f : Queue → Queue) (h : j ≠ i) : (s.modQueue i f).queue j = s.queue j :=
  Tab.get_upd_ne _ _ h

@[simp] theorem modTrunk_trunk_self (i : TrunkId) (f : Trunk → Trunk) : (s.modTrunk i f).trunk i = f (s.trunk i) :=
  Tab.get_upd_self _ _ _
@[simp] theorem modTrunk_trunk_ne {i j : TrunkId} (f : Trunk → Trunk) (h : j ≠ i) : (s.modTrunk i f).trunk j = s.trunk j :=
  Tab.get_upd_ne _ _ h

@[simp] theorem modProfile_profile_self (i : ProfileId) (f : Profile → Profile) : (s.modProfile i f).profile i = f (s.profile i) :=
  Tab.get_upd_self _ _ _
@[simp] theorem modProfile_profile_ne {i j : ProfileId} (f : Profile → Profile) (h : j ≠ i) : (s.modProfile i f).profile j = s.profile j :=
  Tab.get_upd_ne _ _ h

@[simp] theorem modSlot_slot_self (i : SlotId) (f : Slot → Slot) : (s.modSlot i f).slot i = f (s.slot i) :=
  Tab.get_upd_self _ _ _
@[simp] theorem modSlot_slot_ne {i j : SlotId} (f : Slot → Slot) (h : j ≠ i) : (s.modSlot i f).slot j = s.slot j :=
  Tab.get_upd_ne _ _ h

/-- Raising events changes the waiting raises only. -/
theorem raise_eq (b : Block) (es : List Raise) :
    s.raise b es = { s with events := { s.events with
      raised := s.events.raised ++ if es.isEmpty then [] else [{ block := b, events := es }] } } := by
  cases es <;> simp [State.raise, State.modEvents]

@[simp] theorem raise_pending (b : Block) (es : List Raise) : (s.raise b es).pending = s.pending := by
  rw [raise_eq]
@[simp] theorem raise_resetLow (b : Block) (es : List Raise) : (s.raise b es).resetLow = s.resetLow := by
  rw [raise_eq]
@[simp] theorem raise_now (b : Block) (es : List Raise) : (s.raise b es).now = s.now := by
  rw [raise_eq]
@[simp] theorem raise_ownAddress (b : Block) (es : List Raise) : (s.raise b es).ownAddress = s.ownAddress := by
  rw [raise_eq]
@[simp] theorem raise_links (b : Block) (es : List Raise) : (s.raise b es).links = s.links := by
  rw [raise_eq]
@[simp] theorem raise_edge (b : Block) (es : List Raise) : (s.raise b es).edge = s.edge := by
  rw [raise_eq]
@[simp] theorem raise_steer (b : Block) (es : List Raise) : (s.raise b es).steer = s.steer := by
  rw [raise_eq]
@[simp] theorem raise_pool (b : Block) (es : List Raise) : (s.raise b es).pool = s.pool := by
  rw [raise_eq]
@[simp] theorem raise_queues (b : Block) (es : List Raise) : (s.raise b es).queues = s.queues := by
  rw [raise_eq]
@[simp] theorem raise_profiles (b : Block) (es : List Raise) : (s.raise b es).profiles = s.profiles := by
  rw [raise_eq]
@[simp] theorem raise_trunks (b : Block) (es : List Raise) : (s.raise b es).trunks = s.trunks := by
  rw [raise_eq]
@[simp] theorem raise_mgmt (b : Block) (es : List Raise) : (s.raise b es).mgmt = s.mgmt := by
  rw [raise_eq]
@[simp] theorem raise_counters (b : Block) (es : List Raise) : (s.raise b es).counters = s.counters := by
  rw [raise_eq]
@[simp] theorem raise_link (b : Block) (es : List Raise) (j : Port) : (s.raise b es).link j = s.link j := by
  rw [raise_eq]; rfl
@[simp] theorem raise_queue (b : Block) (es : List Raise) (j : QueueId) : (s.raise b es).queue j = s.queue j := by
  rw [raise_eq]; rfl
@[simp] theorem raise_trunk (b : Block) (es : List Raise) (j : TrunkId) : (s.raise b es).trunk j = s.trunk j := by
  rw [raise_eq]; rfl
@[simp] theorem raise_profile (b : Block) (es : List Raise) (j : ProfileId) : (s.raise b es).profile j = s.profile j := by
  rw [raise_eq]; rfl
@[simp] theorem raise_account (b : Block) (es : List Raise) (j : AcctId) : (s.raise b es).account j = s.account j := by
  rw [raise_eq]; rfl
@[simp] theorem raise_slot (b : Block) (es : List Raise) (j : SlotId) : (s.raise b es).slot j = s.slot j := by
  rw [raise_eq]; rfl
@[simp] theorem raise_slots (b : Block) (es : List Raise) : (s.raise b es).events.slots = s.events.slots := by
  rw [raise_eq]
@[simp] theorem raise_records (b : Block) (es : List Raise) : (s.raise b es).events.records = s.events.records := by
  rw [raise_eq]
@[simp] theorem raise_lost (b : Block) (es : List Raise) : (s.raise b es).events.lost = s.events.lost := by
  rw [raise_eq]
@[simp] theorem raise_nil (b : Block) : s.raise b [] = s := rfl
@[simp] theorem raise_raised (b : Block) (e : Raise) (es : List Raise) :
    (s.raise b (e :: es)).events.raised = s.events.raised ++ [{ block := b, events := e :: es }] := rfl

@[simp] theorem raise_portCounter (b : Block) (es : List Raise) (p : Port) (c : PortCounter) :
    (s.raise b es).portCounter p c = s.portCounter p c := by
  simp [State.portCounter]
@[simp] theorem raise_queueCounter (b : Block) (es : List Raise) (q : QueueId) (c : QueueCounter) :
    (s.raise b es).queueCounter q c = s.queueCounter q c := by
  simp [State.queueCounter]
@[simp] theorem raise_trunkCounter (b : Block) (es : List Raise) (t : TrunkId) (c : TrunkCounter) :
    (s.raise b es).trunkCounter t c = s.trunkCounter t c := by
  simp [State.trunkCounter]
@[simp] theorem raise_mgmtCounter (b : Block) (es : List Raise) (c : MgmtCounter) :
    (s.raise b es).mgmtCounter c = s.mgmtCounter c := by
  simp [State.mgmtCounter]

/-! ### Counters -/

/-- A counter is read from its group alone. -/
theorem portCounter_congr {s t : State} (h : s.counters.port = t.counters.port) (p : Port) (c : PortCounter) :
    s.portCounter p c = t.portCounter p c := by
  simp [State.portCounter, h]
theorem queueCounter_congr {s t : State} (h : s.counters.queue = t.counters.queue) (q : QueueId) (c : QueueCounter) :
    s.queueCounter q c = t.queueCounter q c := by
  simp [State.queueCounter, h]
theorem trunkCounter_congr {s t : State} (h : s.counters.trunk = t.counters.trunk) (j : TrunkId) (c : TrunkCounter) :
    s.trunkCounter j c = t.trunkCounter j c := by
  simp [State.trunkCounter, h]
theorem mgmtCounter_congr {s t : State} (h : s.counters.mgmt = t.counters.mgmt) (c : MgmtCounter) :
    s.mgmtCounter c = t.mgmtCounter c := by
  simp [State.mgmtCounter, h]

theorem countPort_self (p : Port) (c : PortCounter) (n : Nat) :
    (s.countPort p c n).portCounter p c = satAdd (s.portCounter p c) n := by
  simp [State.countPort, State.portCounter, State.modCounters]
theorem countQueue_self (q : QueueId) (c : QueueCounter) (n : Nat) :
    (s.countQueue q c n).queueCounter q c = satAdd (s.queueCounter q c) n := by
  simp [State.countQueue, State.queueCounter, State.modCounters]
theorem countTrunk_self (t : TrunkId) (c : TrunkCounter) (n : Nat) :
    (s.countTrunk t c n).trunkCounter t c = satAdd (s.trunkCounter t c) n := by
  simp [State.countTrunk, State.trunkCounter, State.modCounters]
theorem countMgmt_self (c : MgmtCounter) (n : Nat) :
    (s.countMgmt c n).mgmtCounter c = satAdd (s.mgmtCounter c) n := by
  simp [State.countMgmt, State.mgmtCounter, State.modCounters]

theorem portCounter_index_inj {c d : PortCounter} (h : c.index = d.index) : c = d := by
  cases c <;> cases d <;> first | rfl | (exact absurd h (by decide))
theorem queueCounter_index_inj {c d : QueueCounter} (h : c.index = d.index) : c = d := by
  cases c <;> cases d <;> first | rfl | (exact absurd h (by decide))
theorem trunkCounter_index_inj {c d : TrunkCounter} (h : c.index = d.index) : c = d := by
  cases c <;> cases d <;> first | rfl | (exact absurd h (by decide))
theorem mgmtCounter_index_inj {c d : MgmtCounter} (h : c.index = d.index) : c = d := by
  cases c <;> cases d <;> first | rfl | (exact absurd h (by decide))

/-- Counting on one port leaves every other port counter. -/
theorem countPort_ne (p q : Port) (c d : PortCounter) (n : Nat) (h : q ≠ p ∨ d ≠ c) :
    (s.countPort p c n).portCounter q d = s.portCounter q d := by
  by_cases hq : q = p
  · subst hq
    have hd : d.index ≠ c.index := fun e => (h.resolve_left (fun x => x rfl)) (portCounter_index_inj e)
    simp [State.countPort, State.portCounter, State.modCounters, hd]
  · simp [State.countPort, State.portCounter, State.modCounters, hq]
theorem countQueue_ne (p q : QueueId) (c d : QueueCounter) (n : Nat) (h : q ≠ p ∨ d ≠ c) :
    (s.countQueue p c n).queueCounter q d = s.queueCounter q d := by
  by_cases hq : q = p
  · subst hq
    have hd : d.index ≠ c.index := fun e => (h.resolve_left (fun x => x rfl)) (queueCounter_index_inj e)
    simp [State.countQueue, State.queueCounter, State.modCounters, hd]
  · simp [State.countQueue, State.queueCounter, State.modCounters, hq]
theorem countTrunk_ne (p q : TrunkId) (c d : TrunkCounter) (n : Nat) (h : q ≠ p ∨ d ≠ c) :
    (s.countTrunk p c n).trunkCounter q d = s.trunkCounter q d := by
  by_cases hq : q = p
  · subst hq
    have hd : d.index ≠ c.index := fun e => (h.resolve_left (fun x => x rfl)) (trunkCounter_index_inj e)
    simp [State.countTrunk, State.trunkCounter, State.modCounters, hd]
  · simp [State.countTrunk, State.trunkCounter, State.modCounters, hq]
theorem countMgmt_ne (c d : MgmtCounter) (n : Nat) (h : d ≠ c) :
    (s.countMgmt c n).mgmtCounter d = s.mgmtCounter d := by
  have hd : d.index ≠ c.index := fun e => h (mgmtCounter_index_inj e)
  simp [State.countMgmt, State.mgmtCounter, State.modCounters, hd]

@[simp] theorem satAdd_zero (c : Word) : satAdd c 0 = c := by
  have h := c.isLt
  have h1 : min (c.toNat + 0) Config.counterMax = c.toNat := by simp only [Config.counterMax]; omega
  rw [satAdd, h1, BitVec.ofNat_toNat, BitVec.setWidth_eq]

/-- R162: a count goes up by the amount, or stops at the top. -/
theorem satAdd_toNat (c : Word) (n : Nat) : (satAdd c n).toNat = min (c.toNat + n) 4294967295 := by
  have h1 : min (c.toNat + n) 4294967295 < 2 ^ 32 := by omega
  simp only [satAdd, Config.counterMax, BitVec.toNat_ofNat]
  exact Nat.mod_eq_of_lt h1

/-- R162: two counts are the count of the sum. -/
theorem satAdd_satAdd (c : Word) (m n : Nat) : satAdd (satAdd c m) n = satAdd c (m + n) := by
  apply BitVec.eq_of_toNat_eq
  simp only [satAdd_toNat]; omega

/-- Two states that agree in every field are equal. -/
theorem State.eq_of_fields {s t : State}
    (pending_eq : s.pending = t.pending) (resetLow_eq : s.resetLow = t.resetLow) (now_eq : s.now = t.now)
    (ownAddress_eq : s.ownAddress = t.ownAddress) (links_eq : s.links = t.links) (edge_eq : s.edge = t.edge)
    (steer_eq : s.steer = t.steer) (pool_eq : s.pool = t.pool) (queues_eq : s.queues = t.queues)
    (profiles_eq : s.profiles = t.profiles) (trunks_eq : s.trunks = t.trunks) (mgmt_eq : s.mgmt = t.mgmt)
    (events_eq : s.events = t.events) (counters_eq : s.counters = t.counters) : s = t := by
  cases s; cases t; simp_all

end Sys2Proof.Machine
end

