-- ==== Sys2Proof/Laws/Ops.lean ====
section
/-! SUPPORT. What the shared operations of Machine/Ops.lean leave unchanged, and what the pool's operations and the
transmitter's make of the part they change. -/

namespace Sys2Proof.Machine

variable (s : State)

/-! ### Counter groups -/

@[simp] theorem countPort_counters_queue (p : Port) (c : PortCounter) (n : Nat) : (s.countPort p c n).counters.queue = s.counters.queue := rfl
@[simp] theorem countPort_counters_trunk (p : Port) (c : PortCounter) (n : Nat) : (s.countPort p c n).counters.trunk = s.counters.trunk := rfl
@[simp] theorem countPort_counters_mgmt (p : Port) (c : PortCounter) (n : Nat) : (s.countPort p c n).counters.mgmt = s.counters.mgmt := rfl
@[simp] theorem countQueue_counters_port (p : QueueId) (c : QueueCounter) (n : Nat) : (s.countQueue p c n).counters.port = s.counters.port := rfl
@[simp] theorem countQueue_counters_trunk (p : QueueId) (c : QueueCounter) (n : Nat) : (s.countQueue p c n).counters.trunk = s.counters.trunk := rfl
@[simp] theorem countQueue_counters_mgmt (p : QueueId) (c : QueueCounter) (n : Nat) : (s.countQueue p c n).counters.mgmt = s.counters.mgmt := rfl
@[simp] theorem countTrunk_counters_port (p : TrunkId) (c : TrunkCounter) (n : Nat) : (s.countTrunk p c n).counters.port = s.counters.port := rfl
@[simp] theorem countTrunk_counters_queue (p : TrunkId) (c : TrunkCounter) (n : Nat) : (s.countTrunk p c n).counters.queue = s.counters.queue := rfl
@[simp] theorem countTrunk_counters_mgmt (p : TrunkId) (c : TrunkCounter) (n : Nat) : (s.countTrunk p c n).counters.mgmt = s.counters.mgmt := rfl
@[simp] theorem countMgmt_counters_port (c : MgmtCounter) (n : Nat) : (s.countMgmt c n).counters.port = s.counters.port := rfl
@[simp] theorem countMgmt_counters_queue (c : MgmtCounter) (n : Nat) : (s.countMgmt c n).counters.queue = s.counters.queue := rfl
@[simp] theorem countMgmt_counters_trunk (c : MgmtCounter) (n : Nat) : (s.countMgmt c n).counters.trunk = s.counters.trunk := rfl

/-! ### The monitor -/

@[simp] theorem monitor_pending : s.monitor.pending = s.pending := by unfold State.monitor; split <;> split <;> simp
@[simp] theorem monitor_resetLow : s.monitor.resetLow = s.resetLow := by unfold State.monitor; split <;> split <;> simp
@[simp] theorem monitor_now : s.monitor.now = s.now := by unfold State.monitor; split <;> split <;> simp
@[simp] theorem monitor_ownAddress : s.monitor.ownAddress = s.ownAddress := by unfold State.monitor; split <;> split <;> simp
@[simp] theorem monitor_links : s.monitor.links = s.links := by unfold State.monitor; split <;> split <;> simp
@[simp] theorem monitor_edge : s.monitor.edge = s.edge := by unfold State.monitor; split <;> split <;> simp
@[simp] theorem monitor_steer : s.monitor.steer = s.steer := by unfold State.monitor; split <;> split <;> simp
@[simp] theorem monitor_queues : s.monitor.queues = s.queues := by unfold State.monitor; split <;> split <;> simp
@[simp] theorem monitor_profiles : s.monitor.profiles = s.profiles := by unfold State.monitor; split <;> split <;> simp
@[simp] theorem monitor_trunks : s.monitor.trunks = s.trunks := by unfold State.monitor; split <;> split <;> simp
@[simp] theorem monitor_mgmt : s.monitor.mgmt = s.mgmt := by unfold State.monitor; split <;> split <;> simp
@[simp] theorem monitor_counters : s.monitor.counters = s.counters := by unfold State.monitor; split <;> split <;> simp
@[simp] theorem monitor_link (j : Port) : s.monitor.link j = s.link j := by simp [State.link]
@[simp] theorem monitor_queue (j : QueueId) : s.monitor.queue j = s.queue j := by simp [State.queue]
@[simp] theorem monitor_profile (j : ProfileId) : s.monitor.profile j = s.profile j := by simp [State.profile]
@[simp] theorem monitor_trunk (j : TrunkId) : s.monitor.trunk j = s.trunk j := by simp [State.trunk]

/-- R69: a comparison sets the monitor state and nothing else of the pool. -/
theorem monitor_pool : s.monitor.pool = { s.pool with low := s.monitor.pool.low } := by
  unfold State.monitor
  cases h : s.pool.low <;> simp only [Bool.false_eq_true, if_true, if_false] <;> split <;> rfl
theorem monitor_events : s.monitor.events = { s.events with raised := s.monitor.events.raised } := by
  unfold State.monitor; split <;> split <;> simp_all [State.raise, State.modEvents]
@[simp] theorem monitor_account (j : AcctId) : s.monitor.account j = s.account j := by
  unfold State.monitor; split <;> split <;> simp [State.account]
@[simp] theorem monitor_slot (j : SlotId) : s.monitor.slot j = s.slot j := by
  unfold State.monitor; split <;> split <;> simp [State.slot]
@[simp] theorem monitor_freeCells : s.monitor.pool.freeCells = s.pool.freeCells := by
  unfold State.monitor; split <;> split <;> simp
@[simp] theorem monitor_accounts : s.monitor.pool.accounts = s.pool.accounts := by
  unfold State.monitor; split <;> split <;> simp
@[simp] theorem monitor_freeDescriptors : s.monitor.pool.freeDescriptors = s.pool.freeDescriptors := by
  unfold State.monitor; split <;> split <;> simp
@[simp] theorem monitor_lowWater : s.monitor.pool.lowWater = s.pool.lowWater := by
  unfold State.monitor; split <;> split <;> simp
@[simp] theorem monitor_slots : s.monitor.events.slots = s.events.slots := by
  unfold State.monitor; split <;> split <;> simp
@[simp] theorem monitor_records : s.monitor.events.records = s.events.records := by
  unfold State.monitor; split <;> split <;> simp
@[simp] theorem monitor_lost : s.monitor.events.lost = s.events.lost := by
  unfold State.monitor; split <;> split <;> simp

/-- R69: where a comparison leaves the monitor. -/
theorem monitor_low : s.monitor.pool.low =
    if s.pool.low then decide (s.pool.freeCells < s.pool.lowWater + 64) else decide (s.pool.freeCells < s.pool.lowWater) := by
  unfold State.monitor
  split <;> split <;> simp_all [Config.lowWaterBand]

/-- R69: a comparison raises at most one event of the cell pool, behind the raises that wait. -/
theorem monitor_raised : ∃ l, s.monitor.events.raised = s.events.raised ++ l ∧ ∀ a ∈ l, a.block = .cellPool := by
  unfold State.monitor
  split <;> split
  · exact ⟨[_], rfl, by simp⟩
  · exact ⟨[], by simp, by simp⟩
  · exact ⟨[_], rfl, by simp⟩
  · exact ⟨[], by simp, by simp⟩

/-! ### Grant and release -/

@[simp] theorem grantCells_pending (a : AcctId) (n : Nat) (d : Bool) : (s.grantCells a n d).pending = s.pending := by simp [State.grantCells]
@[simp] theorem grantCells_resetLow (a : AcctId) (n : Nat) (d : Bool) : (s.grantCells a n d).resetLow = s.resetLow := by simp [State.grantCells]
@[simp] theorem grantCells_now (a : AcctId) (n : Nat) (d : Bool) : (s.grantCells a n d).now = s.now := by simp [State.grantCells]
@[simp] theorem grantCells_ownAddress (a : AcctId) (n : Nat) (d : Bool) : (s.grantCells a n d).ownAddress = s.ownAddress := by simp [State.grantCells]
@[simp] theorem grantCells_links (a : AcctId) (n : Nat) (d : Bool) : (s.grantCells a n d).links = s.links := by simp [State.grantCells]
@[simp] theorem grantCells_edge (a : AcctId) (n : Nat) (d : Bool) : (s.grantCells a n d).edge = s.edge := by simp [State.grantCells]
@[simp] theorem grantCells_steer (a : AcctId) (n : Nat) (d : Bool) : (s.grantCells a n d).steer = s.steer := by simp [State.grantCells]
@[simp] theorem grantCells_queues (a : AcctId) (n : Nat) (d : Bool) : (s.grantCells a n d).queues = s.queues := by simp [State.grantCells]
@[simp] theorem grantCells_profiles (a : AcctId) (n : Nat) (d : Bool) : (s.grantCells a n d).profiles = s.profiles := by simp [State.grantCells]
@[simp] theorem grantCells_trunks (a : AcctId) (n : Nat) (d : Bool) : (s.grantCells a n d).trunks = s.trunks := by simp [State.grantCells]
@[simp] theorem grantCells_mgmt (a : AcctId) (n : Nat) (d : Bool) : (s.grantCells a n d).mgmt = s.mgmt := by simp [State.grantCells]
@[simp] theorem grantCells_counters (a : AcctId) (n : Nat) (d : Bool) : (s.grantCells a n d).counters = s.counters := by simp [State.grantCells]
@[simp] theorem grantCells_link (a : AcctId) (n : Nat) (d : Bool) (j : Port) : (s.grantCells a n d).link j = s.link j := by simp [State.link]
@[simp] theorem grantCells_queue (a : AcctId) (n : Nat) (d : Bool) (j : QueueId) : (s.grantCells a n d).queue j = s.queue j := by simp [State.queue]
@[simp] theorem grantCells_profile (a : AcctId) (n : Nat) (d : Bool) (j : ProfileId) : (s.grantCells a n d).profile j = s.profile j := by simp [State.profile]
@[simp] theorem grantCells_trunk (a : AcctId) (n : Nat) (d : Bool) (j : TrunkId) : (s.grantCells a n d).trunk j = s.trunk j := by simp [State.trunk]
@[simp] theorem grantCells_slot (a : AcctId) (n : Nat) (d : Bool) (j : SlotId) : (s.grantCells a n d).slot j = s.slot j := by
  simp [State.grantCells, State.slot]
@[simp] theorem grantCells_slots (a : AcctId) (n : Nat) (d : Bool) : (s.grantCells a n d).events.slots = s.events.slots := by
  simp [State.grantCells]
@[simp] theorem grantCells_records (a : AcctId) (n : Nat) (d : Bool) : (s.grantCells a n d).events.records = s.events.records := by
  simp [State.grantCells]
@[simp] theorem grantCells_lost (a : AcctId) (n : Nat) (d : Bool) : (s.grantCells a n d).events.lost = s.events.lost := by
  simp [State.grantCells]
@[simp] theorem grantCells_freeCells (a : AcctId) (n : Nat) (d : Bool) :
    (s.grantCells a n d).pool.freeCells = s.pool.freeCells - n := by
  simp [State.grantCells, Pool.take]
@[simp] theorem grantCells_freeDescriptors (a : AcctId) (n : Nat) (d : Bool) :
    (s.grantCells a n d).pool.freeDescriptors = s.pool.freeDescriptors - d.toNat := by
  simp [State.grantCells, Pool.take]
@[simp] theorem grantCells_lowWater (a : AcctId) (n : Nat) (d : Bool) : (s.grantCells a n d).pool.lowWater = s.pool.lowWater := by
  simp [State.grantCells, Pool.take]
@[simp] theorem grantCells_account_self (a : AcctId) (n : Nat) (d : Bool) :
    (s.grantCells a n d).account a = { s.account a with inUse := (s.account a).inUse + n } := by
  simp [State.grantCells, Pool.take, State.account]
@[simp] theorem grantCells_account_ne {a j : AcctId} (n : Nat) (d : Bool) (h : j ≠ a) :
    (s.grantCells a n d).account j = s.account j := by
  simp [State.grantCells, Pool.take, State.account, h]
/-- R61: what a grant takes. -/
theorem grantCells_pool (a : AcctId) (n : Nat) (d : Bool) :
    (s.grantCells a n d).pool = { s.pool.take a n d with low := (s.grantCells a n d).pool.low } := by
  unfold State.grantCells; rw [monitor_pool]; simp
theorem grantCells_events (a : AcctId) (n : Nat) (d : Bool) :
    (s.grantCells a n d).events = { s.events with raised := (s.grantCells a n d).events.raised } := by
  unfold State.grantCells; rw [monitor_events]; simp
theorem grantCells_raised (a : AcctId) (n : Nat) (d : Bool) :
    ∃ l, (s.grantCells a n d).events.raised = s.events.raised ++ l ∧ ∀ x ∈ l, x.block = .cellPool :=
  monitor_raised (s.modPool fun p => p.take a n d)

@[simp] theorem release_pending (a : AcctId) (n d : Nat) : (s.release a n d).pending = s.pending := by unfold State.release; split <;> simp
@[simp] theorem release_resetLow (a : AcctId) (n d : Nat) : (s.release a n d).resetLow = s.resetLow := by unfold State.release; split <;> simp
@[simp] theorem release_now (a : AcctId) (n d : Nat) : (s.release a n d).now = s.now := by unfold State.release; split <;> simp
@[simp] theorem release_ownAddress (a : AcctId) (n d : Nat) : (s.release a n d).ownAddress = s.ownAddress := by unfold State.release; split <;> simp
@[simp] theorem release_links (a : AcctId) (n d : Nat) : (s.release a n d).links = s.links := by unfold State.release; split <;> simp
@[simp] theorem release_edge (a : AcctId) (n d : Nat) : (s.release a n d).edge = s.edge := by unfold State.release; split <;> simp
@[simp] theorem release_steer (a : AcctId) (n d : Nat) : (s.release a n d).steer = s.steer := by unfold State.release; split <;> simp
@[simp] theorem release_queues (a : AcctId) (n d : Nat) : (s.release a n d).queues = s.queues := by unfold State.release; split <;> simp
@[simp] theorem release_profiles (a : AcctId) (n d : Nat) : (s.release a n d).profiles = s.profiles := by unfold State.release; split <;> simp
@[simp] theorem release_trunks (a : AcctId) (n d : Nat) : (s.release a n d).trunks = s.trunks := by unfold State.release; split <;> simp
@[simp] theorem release_mgmt (a : AcctId) (n d : Nat) : (s.release a n d).mgmt = s.mgmt := by unfold State.release; split <;> simp
@[simp] theorem release_counters (a : AcctId) (n d : Nat) : (s.release a n d).counters = s.counters := by unfold State.release; split <;> simp
@[simp] theorem release_link (a : AcctId) (n d : Nat) (j : Port) : (s.release a n d).link j = s.link j := by simp [State.link]
@[simp] theorem release_queue (a : AcctId) (n d : Nat) (j : QueueId) : (s.release a n d).queue j = s.queue j := by simp [State.queue]
@[simp] theorem release_profile (a : AcctId) (n d : Nat) (j : ProfileId) : (s.release a n d).profile j = s.profile j := by simp [State.profile]
@[simp] theorem release_trunk (a : AcctId) (n d : Nat) (j : TrunkId) : (s.release a n d).trunk j = s.trunk j := by simp [State.trunk]
@[simp] theorem release_slot (a : AcctId) (n d : Nat) (j : SlotId) : (s.release a n d).slot j = s.slot j := by
  unfold State.release; split <;> simp [State.slot]
@[simp] theorem release_slots (a : AcctId) (n d : Nat) : (s.release a n d).events.slots = s.events.slots := by
  unfold State.release; split <;> simp
@[simp] theorem release_records (a : AcctId) (n d : Nat) : (s.release a n d).events.records = s.events.records := by
  unfold State.release; split <;> simp
@[simp] theorem release_lost (a : AcctId) (n d : Nat) : (s.release a n d).events.lost = s.events.lost := by
  unfold State.release; split <;> simp
@[simp] theorem release_freeCells (a : AcctId) (n d : Nat) : (s.release a n d).pool.freeCells = s.pool.freeCells + n := by
  unfold State.release; split <;> simp [Pool.give]
@[simp] theorem release_freeDescriptors (a : AcctId) (n d : Nat) :
    (s.release a n d).pool.freeDescriptors = s.pool.freeDescriptors + d := by
  unfold State.release; split <;> simp [Pool.give]
@[simp] theorem release_lowWater (a : AcctId) (n d : Nat) : (s.release a n d).pool.lowWater = s.pool.lowWater := by
  unfold State.release; split <;> simp [Pool.give]
@[simp] theorem release_account_self (a : AcctId) (n d : Nat) :
    (s.release a n d).account a = { s.account a with inUse := (s.account a).inUse - n } := by
  unfold State.release; split <;> simp [Pool.give, State.account]
@[simp] theorem release_account_ne {a j : AcctId} (n d : Nat) (h : j ≠ a) : (s.release a n d).account j = s.account j := by
  unfold State.release; split <;> simp [Pool.give, State.account, h]
/-- R62: what a release gives back. -/
theorem release_pool (a : AcctId) (n d : Nat) :
    (s.release a n d).pool = { s.pool.give a n d with low := (s.release a n d).pool.low } := by
  unfold State.release; split
  · simp [Pool.give]
  · rw [monitor_pool]; simp
theorem release_events (a : AcctId) (n d : Nat) :
    (s.release a n d).events = { s.events with raised := (s.release a n d).events.raised } := by
  unfold State.release; split
  · simp
  · rw [monitor_events]; simp
theorem release_raised (a : AcctId) (n d : Nat) :
    ∃ l, (s.release a n d).events.raised = s.events.raised ++ l ∧ ∀ x ∈ l, x.block = .cellPool := by
  unfold State.release; split
  · exact ⟨[], by simp, by simp⟩
  · exact monitor_raised (s.modPool fun p => p.give a n d)

/-! ### The transmitter -/

@[simp] theorem start_pending (p : Port) (f : Frame) (o : WireOwner) : (s.start p f o).pending = s.pending := by simp [State.start]
@[simp] theorem start_resetLow (p : Port) (f : Frame) (o : WireOwner) : (s.start p f o).resetLow = s.resetLow := by simp [State.start]
@[simp] theorem start_now (p : Port) (f : Frame) (o : WireOwner) : (s.start p f o).now = s.now := by simp [State.start]
@[simp] theorem start_ownAddress (p : Port) (f : Frame) (o : WireOwner) : (s.start p f o).ownAddress = s.ownAddress := by simp [State.start]
@[simp] theorem start_edge (p : Port) (f : Frame) (o : WireOwner) : (s.start p f o).edge = s.edge := by simp [State.start]
@[simp] theorem start_steer (p : Port) (f : Frame) (o : WireOwner) : (s.start p f o).steer = s.steer := by simp [State.start]
@[simp] theorem start_pool (p : Port) (f : Frame) (o : WireOwner) : (s.start p f o).pool = s.pool := by simp [State.start]
@[simp] theorem start_queues (p : Port) (f : Frame) (o : WireOwner) : (s.start p f o).queues = s.queues := by simp [State.start]
@[simp] theorem start_profiles (p : Port) (f : Frame) (o : WireOwner) : (s.start p f o).profiles = s.profiles := by simp [State.start]
@[simp] theorem start_trunks (p : Port) (f : Frame) (o : WireOwner) : (s.start p f o).trunks = s.trunks := by simp [State.start]
@[simp] theorem start_mgmt (p : Port) (f : Frame) (o : WireOwner) : (s.start p f o).mgmt = s.mgmt := by simp [State.start]
@[simp] theorem start_events (p : Port) (f : Frame) (o : WireOwner) : (s.start p f o).events = s.events := by simp [State.start]
@[simp] theorem start_counters (p : Port) (f : Frame) (o : WireOwner) : (s.start p f o).counters = s.counters := by simp [State.start]
@[simp] theorem start_queue (p : Port) (f : Frame) (o : WireOwner) (j : QueueId) : (s.start p f o).queue j = s.queue j := by simp [State.queue]
@[simp] theorem start_profile (p : Port) (f : Frame) (o : WireOwner) (j : ProfileId) : (s.start p f o).profile j = s.profile j := by simp [State.profile]
@[simp] theorem start_trunk (p : Port) (f : Frame) (o : WireOwner) (j : TrunkId) : (s.start p f o).trunk j = s.trunk j := by simp [State.trunk]
@[simp] theorem start_account (p : Port) (f : Frame) (o : WireOwner) (j : AcctId) : (s.start p f o).account j = s.account j := by simp [State.account]
@[simp] theorem start_slot (p : Port) (f : Frame) (o : WireOwner) (j : SlotId) : (s.start p f o).slot j = s.slot j := by simp [State.slot]
@[simp] theorem start_link_ne {p q : Port} (f : Frame) (o : WireOwner) (h : q ≠ p) : (s.start p f o).link q = s.link q := by
  simp [State.start, h]
@[simp] theorem start_link_self (p : Port) (f : Frame) (o : WireOwner) :
    (s.start p f o).link p = { s.link p with
      wire := some { frame := { f with seq := (s.link p).txCount }, owner := o }, txCount := (s.link p).txCount + 1 } := by
  simp [State.start]
@[simp] theorem start_link_up (p q : Port) (f : Frame) (o : WireOwner) : ((s.start p f o).link q).up = (s.link q).up := by
  by_cases h : q = p
  · subst h; simp
  · simp [h]
@[simp] theorem start_link_control (p q : Port) (f : Frame) (o : WireOwner) :
    ((s.start p f o).link q).control = (s.link q).control := by
  by_cases h : q = p
  · subst h; simp
  · simp [h]

@[simp] theorem abort_pending (p : Port) : (s.abort p).pending = s.pending := by unfold State.abort; split <;> [rfl; split] <;> simp
@[simp] theorem abort_resetLow (p : Port) : (s.abort p).resetLow = s.resetLow := by unfold State.abort; split <;> [rfl; split] <;> simp
@[simp] theorem abort_now (p : Port) : (s.abort p).now = s.now := by unfold State.abort; split <;> [rfl; split] <;> simp
@[simp] theorem abort_ownAddress (p : Port) : (s.abort p).ownAddress = s.ownAddress := by unfold State.abort; split <;> [rfl; split] <;> simp
@[simp] theorem abort_edge (p : Port) : (s.abort p).edge = s.edge := by unfold State.abort; split <;> [rfl; split] <;> simp
@[simp] theorem abort_steer (p : Port) : (s.abort p).steer = s.steer := by unfold State.abort; split <;> [rfl; split] <;> simp
@[simp] theorem abort_pool (p : Port) : (s.abort p).pool = s.pool := by unfold State.abort; split <;> [rfl; split] <;> simp
@[simp] theorem abort_queues (p : Port) : (s.abort p).queues = s.queues := by unfold State.abort; split <;> [rfl; split] <;> simp
@[simp] theorem abort_profiles (p : Port) : (s.abort p).profiles = s.profiles := by unfold State.abort; split <;> [rfl; split] <;> simp
@[simp] theorem abort_trunks (p : Port) : (s.abort p).trunks = s.trunks := by unfold State.abort; split <;> [rfl; split] <;> simp
@[simp] theorem abort_mgmt (p : Port) : (s.abort p).mgmt = s.mgmt := by unfold State.abort; split <;> [rfl; split] <;> simp
@[simp] theorem abort_events (p : Port) : (s.abort p).events = s.events := by unfold State.abort; split <;> [rfl; split] <;> simp
@[simp] theorem abort_queue (p : Port) (j : QueueId) : (s.abort p).queue j = s.queue j := by simp [State.queue]
@[simp] theorem abort_profile (p : Port) (j : ProfileId) : (s.abort p).profile j = s.profile j := by simp [State.profile]
@[simp] theorem abort_trunk (p : Port) (j : TrunkId) : (s.abort p).trunk j = s.trunk j := by simp [State.trunk]
@[simp] theorem abort_account (p : Port) (j : AcctId) : (s.abort p).account j = s.account j := by simp [State.account]
@[simp] theorem abort_slot (p : Port) (j : SlotId) : (s.abort p).slot j = s.slot j := by simp [State.slot]
@[simp] theorem abort_counters_port (p : Port) : (s.abort p).counters.port = s.counters.port := by unfold State.abort; split <;> [rfl; split] <;> simp
@[simp] theorem abort_counters_queue (p : Port) : (s.abort p).counters.queue = s.counters.queue := by unfold State.abort; split <;> [rfl; split] <;> simp
@[simp] theorem abort_counters_mgmt (p : Port) : (s.abort p).counters.mgmt = s.counters.mgmt := by unfold State.abort; split <;> [rfl; split] <;> simp
/-- R8: after an abort the transmitter is idle. -/
@[simp] theorem abort_link_self (p : Port) : (s.abort p).link p = { s.link p with wire := none } := by
  unfold State.abort
  split
  · rename_i h; simp [← h]
  · split <;> simp
@[simp] theorem abort_link_ne {p q : Port} (h : q ≠ p) : (s.abort p).link q = s.link q := by
  unfold State.abort; split <;> [rfl; split] <;> simp [h]

/-- A transmitter is free when its link is UP and nothing is on the wire. -/
theorem free_iff (p : Port) : s.free p = true ↔ (s.link p).up = true ∧ (s.link p).wire = none := by
  simp [State.free]
theorem free_eq_false (p : Port) : s.free p = false ↔ (s.link p).up = false ∨ (s.link p).wire ≠ none := by
  cases h : (s.link p).up <;> cases h2 : (s.link p).wire <;> simp [State.free, h, h2]

/-! ### Ports -/

@[simp] theorem side_edge (k : EdgeId) : k.port.side = .edge k := by
  revert k; decide
@[simp] theorem side_trunk (t : TrunkId) : t.port.side = .trunk t := by
  revert t; decide
theorem port_cases (p : Port) : (∃ k : EdgeId, p = k.port) ∨ ∃ t : TrunkId, p = t.port := by
  revert p; decide
theorem edgePort_ne_trunkPort (k : EdgeId) (t : TrunkId) : k.port ≠ t.port := by
  revert k t; decide
theorem edgePort_inj {j k : EdgeId} : j.port = k.port ↔ j = k := by
  revert j k; decide
theorem trunkPort_inj {i j : TrunkId} : i.port = j.port ↔ i = j := by
  revert i j; decide

end Sys2Proof.Machine
end

