-- ==== Sys2Proof/Laws/Arbiter.lean ====
section
/-! SUPPORT. What a selector leaves unchanged, and that it starts at most one transmission. -/

namespace Sys2Proof.Machine

variable (s : State)

/-! ### Grants and resends -/

@[simp] theorem grant_pending (t : TrunkId) (q : QueueId) (l : Option (Fin 4)) : (s.grant t q l).pending = s.pending := by unfold State.grant; split <;> simp
@[simp] theorem grant_resetLow (t : TrunkId) (q : QueueId) (l : Option (Fin 4)) : (s.grant t q l).resetLow = s.resetLow := by unfold State.grant; split <;> simp
@[simp] theorem grant_now (t : TrunkId) (q : QueueId) (l : Option (Fin 4)) : (s.grant t q l).now = s.now := by unfold State.grant; split <;> simp
@[simp] theorem grant_ownAddress (t : TrunkId) (q : QueueId) (l : Option (Fin 4)) : (s.grant t q l).ownAddress = s.ownAddress := by unfold State.grant; split <;> simp
@[simp] theorem grant_edge (t : TrunkId) (q : QueueId) (l : Option (Fin 4)) : (s.grant t q l).edge = s.edge := by unfold State.grant; split <;> simp
@[simp] theorem grant_steer (t : TrunkId) (q : QueueId) (l : Option (Fin 4)) : (s.grant t q l).steer = s.steer := by unfold State.grant; split <;> simp
@[simp] theorem grant_pool (t : TrunkId) (q : QueueId) (l : Option (Fin 4)) : (s.grant t q l).pool = s.pool := by unfold State.grant; split <;> simp
@[simp] theorem grant_profiles (t : TrunkId) (q : QueueId) (l : Option (Fin 4)) : (s.grant t q l).profiles = s.profiles := by unfold State.grant; split <;> simp
@[simp] theorem grant_mgmt (t : TrunkId) (q : QueueId) (l : Option (Fin 4)) : (s.grant t q l).mgmt = s.mgmt := by unfold State.grant; split <;> simp
@[simp] theorem grant_events (t : TrunkId) (q : QueueId) (l : Option (Fin 4)) : (s.grant t q l).events = s.events := by unfold State.grant; split <;> simp
@[simp] theorem grant_profile (t : TrunkId) (q : QueueId) (l : Option (Fin 4)) (j : ProfileId) : (s.grant t q l).profile j = s.profile j := by simp [State.profile]
@[simp] theorem grant_account (t : TrunkId) (q : QueueId) (l : Option (Fin 4)) (j : AcctId) : (s.grant t q l).account j = s.account j := by simp [State.account]
@[simp] theorem grant_slot (t : TrunkId) (q : QueueId) (l : Option (Fin 4)) (j : SlotId) : (s.grant t q l).slot j = s.slot j := by simp [State.slot]
@[simp] theorem grant_counters_port (t : TrunkId) (q : QueueId) (l : Option (Fin 4)) : (s.grant t q l).counters.port = s.counters.port := by unfold State.grant; split <;> simp
@[simp] theorem grant_counters_queue (t : TrunkId) (q : QueueId) (l : Option (Fin 4)) : (s.grant t q l).counters.queue = s.counters.queue := by unfold State.grant; split <;> simp
@[simp] theorem grant_counters_mgmt (t : TrunkId) (q : QueueId) (l : Option (Fin 4)) : (s.grant t q l).counters.mgmt = s.counters.mgmt := by unfold State.grant; split <;> simp

@[simp] theorem resend_pending (t : TrunkId) (b : Bundle) : (s.resend t b).pending = s.pending := by simp [State.resend]
@[simp] theorem resend_resetLow (t : TrunkId) (b : Bundle) : (s.resend t b).resetLow = s.resetLow := by simp [State.resend]
@[simp] theorem resend_now (t : TrunkId) (b : Bundle) : (s.resend t b).now = s.now := by simp [State.resend]
@[simp] theorem resend_ownAddress (t : TrunkId) (b : Bundle) : (s.resend t b).ownAddress = s.ownAddress := by simp [State.resend]
@[simp] theorem resend_edge (t : TrunkId) (b : Bundle) : (s.resend t b).edge = s.edge := by simp [State.resend]
@[simp] theorem resend_steer (t : TrunkId) (b : Bundle) : (s.resend t b).steer = s.steer := by simp [State.resend]
@[simp] theorem resend_pool (t : TrunkId) (b : Bundle) : (s.resend t b).pool = s.pool := by simp [State.resend]
@[simp] theorem resend_queues (t : TrunkId) (b : Bundle) : (s.resend t b).queues = s.queues := by simp [State.resend]
@[simp] theorem resend_profiles (t : TrunkId) (b : Bundle) : (s.resend t b).profiles = s.profiles := by simp [State.resend]
@[simp] theorem resend_mgmt (t : TrunkId) (b : Bundle) : (s.resend t b).mgmt = s.mgmt := by simp [State.resend]
@[simp] theorem resend_events (t : TrunkId) (b : Bundle) : (s.resend t b).events = s.events := by simp [State.resend]
@[simp] theorem resend_queue (t : TrunkId) (b : Bundle) (j : QueueId) : (s.resend t b).queue j = s.queue j := by simp [State.queue]
@[simp] theorem resend_profile (t : TrunkId) (b : Bundle) (j : ProfileId) : (s.resend t b).profile j = s.profile j := by simp [State.profile]
@[simp] theorem resend_account (t : TrunkId) (b : Bundle) (j : AcctId) : (s.resend t b).account j = s.account j := by simp [State.account]
@[simp] theorem resend_slot (t : TrunkId) (b : Bundle) (j : SlotId) : (s.resend t b).slot j = s.slot j := by simp [State.slot]
@[simp] theorem resend_counters_port (t : TrunkId) (b : Bundle) : (s.resend t b).counters.port = s.counters.port := by simp [State.resend]
@[simp] theorem resend_counters_queue (t : TrunkId) (b : Bundle) : (s.resend t b).counters.queue = s.counters.queue := by simp [State.resend]
@[simp] theorem resend_counters_mgmt (t : TrunkId) (b : Bundle) : (s.resend t b).counters.mgmt = s.counters.mgmt := by simp [State.resend]

@[simp] theorem grantNext_pending (t : TrunkId) : (s.grantNext t).pending = s.pending := by unfold State.grantNext; split <;> [split; skip] <;> simp
@[simp] theorem grantNext_resetLow (t : TrunkId) : (s.grantNext t).resetLow = s.resetLow := by unfold State.grantNext; split <;> [split; skip] <;> simp
@[simp] theorem grantNext_now (t : TrunkId) : (s.grantNext t).now = s.now := by unfold State.grantNext; split <;> [split; skip] <;> simp
@[simp] theorem grantNext_ownAddress (t : TrunkId) : (s.grantNext t).ownAddress = s.ownAddress := by unfold State.grantNext; split <;> [split; skip] <;> simp
@[simp] theorem grantNext_edge (t : TrunkId) : (s.grantNext t).edge = s.edge := by unfold State.grantNext; split <;> [split; skip] <;> simp
@[simp] theorem grantNext_steer (t : TrunkId) : (s.grantNext t).steer = s.steer := by unfold State.grantNext; split <;> [split; skip] <;> simp
@[simp] theorem grantNext_pool (t : TrunkId) : (s.grantNext t).pool = s.pool := by unfold State.grantNext; split <;> [split; skip] <;> simp
@[simp] theorem grantNext_profiles (t : TrunkId) : (s.grantNext t).profiles = s.profiles := by unfold State.grantNext; split <;> [split; skip] <;> simp
@[simp] theorem grantNext_mgmt (t : TrunkId) : (s.grantNext t).mgmt = s.mgmt := by unfold State.grantNext; split <;> [split; skip] <;> simp
@[simp] theorem grantNext_events (t : TrunkId) : (s.grantNext t).events = s.events := by unfold State.grantNext; split <;> [split; skip] <;> simp
@[simp] theorem grantNext_profile (t : TrunkId) (j : ProfileId) : (s.grantNext t).profile j = s.profile j := by simp [State.profile]
@[simp] theorem grantNext_account (t : TrunkId) (j : AcctId) : (s.grantNext t).account j = s.account j := by simp [State.account]
@[simp] theorem grantNext_slot (t : TrunkId) (j : SlotId) : (s.grantNext t).slot j = s.slot j := by simp [State.slot]
@[simp] theorem grantNext_counters_port (t : TrunkId) : (s.grantNext t).counters.port = s.counters.port := by unfold State.grantNext; split <;> [split; skip] <;> simp
@[simp] theorem grantNext_counters_queue (t : TrunkId) : (s.grantNext t).counters.queue = s.counters.queue := by unfold State.grantNext; split <;> [split; skip] <;> simp
@[simp] theorem grantNext_counters_mgmt (t : TrunkId) : (s.grantNext t).counters.mgmt = s.counters.mgmt := by unfold State.grantNext; split <;> [split; skip] <;> simp

/-! ### Selectors -/

@[simp] theorem trunkSelect_pending (t : TrunkId) : (s.trunkSelect t).pending = s.pending := by unfold State.trunkSelect; split <;> [split <;> [skip; split <;> [split; skip]]; skip] <;> simp
@[simp] theorem trunkSelect_resetLow (t : TrunkId) : (s.trunkSelect t).resetLow = s.resetLow := by unfold State.trunkSelect; split <;> [split <;> [skip; split <;> [split; skip]]; skip] <;> simp
@[simp] theorem trunkSelect_now (t : TrunkId) : (s.trunkSelect t).now = s.now := by unfold State.trunkSelect; split <;> [split <;> [skip; split <;> [split; skip]]; skip] <;> simp
@[simp] theorem trunkSelect_ownAddress (t : TrunkId) : (s.trunkSelect t).ownAddress = s.ownAddress := by unfold State.trunkSelect; split <;> [split <;> [skip; split <;> [split; skip]]; skip] <;> simp
@[simp] theorem trunkSelect_edge (t : TrunkId) : (s.trunkSelect t).edge = s.edge := by unfold State.trunkSelect; split <;> [split <;> [skip; split <;> [split; skip]]; skip] <;> simp
@[simp] theorem trunkSelect_steer (t : TrunkId) : (s.trunkSelect t).steer = s.steer := by unfold State.trunkSelect; split <;> [split <;> [skip; split <;> [split; skip]]; skip] <;> simp
@[simp] theorem trunkSelect_pool (t : TrunkId) : (s.trunkSelect t).pool = s.pool := by unfold State.trunkSelect; split <;> [split <;> [skip; split <;> [split; skip]]; skip] <;> simp
@[simp] theorem trunkSelect_profiles (t : TrunkId) : (s.trunkSelect t).profiles = s.profiles := by unfold State.trunkSelect; split <;> [split <;> [skip; split <;> [split; skip]]; skip] <;> simp
@[simp] theorem trunkSelect_mgmt (t : TrunkId) : (s.trunkSelect t).mgmt = s.mgmt := by unfold State.trunkSelect; split <;> [split <;> [skip; split <;> [split; skip]]; skip] <;> simp
@[simp] theorem trunkSelect_events (t : TrunkId) : (s.trunkSelect t).events = s.events := by unfold State.trunkSelect; split <;> [split <;> [skip; split <;> [split; skip]]; skip] <;> simp
@[simp] theorem trunkSelect_profile (t : TrunkId) (j : ProfileId) : (s.trunkSelect t).profile j = s.profile j := by simp [State.profile]
@[simp] theorem trunkSelect_account (t : TrunkId) (j : AcctId) : (s.trunkSelect t).account j = s.account j := by simp [State.account]
@[simp] theorem trunkSelect_slot (t : TrunkId) (j : SlotId) : (s.trunkSelect t).slot j = s.slot j := by simp [State.slot]
@[simp] theorem trunkSelect_counters_port (t : TrunkId) : (s.trunkSelect t).counters.port = s.counters.port := by unfold State.trunkSelect; split <;> [split <;> [skip; split <;> [split; skip]]; skip] <;> simp
@[simp] theorem trunkSelect_counters_queue (t : TrunkId) : (s.trunkSelect t).counters.queue = s.counters.queue := by unfold State.trunkSelect; split <;> [split <;> [skip; split <;> [split; skip]]; skip] <;> simp
@[simp] theorem trunkSelect_counters_mgmt (t : TrunkId) : (s.trunkSelect t).counters.mgmt = s.counters.mgmt := by unfold State.trunkSelect; split <;> [split <;> [skip; split <;> [split; skip]]; skip] <;> simp

@[simp] theorem edgeSelect_pending (k : EdgeId) : (s.edgeSelect k).pending = s.pending := by unfold State.edgeSelect; split <;> [split <;> [skip; split]; skip] <;> simp
@[simp] theorem edgeSelect_resetLow (k : EdgeId) : (s.edgeSelect k).resetLow = s.resetLow := by unfold State.edgeSelect; split <;> [split <;> [skip; split]; skip] <;> simp
@[simp] theorem edgeSelect_now (k : EdgeId) : (s.edgeSelect k).now = s.now := by unfold State.edgeSelect; split <;> [split <;> [skip; split]; skip] <;> simp
@[simp] theorem edgeSelect_ownAddress (k : EdgeId) : (s.edgeSelect k).ownAddress = s.ownAddress := by unfold State.edgeSelect; split <;> [split <;> [skip; split]; skip] <;> simp
@[simp] theorem edgeSelect_edge (k : EdgeId) : (s.edgeSelect k).edge = s.edge := by unfold State.edgeSelect; split <;> [split <;> [skip; split]; skip] <;> simp
@[simp] theorem edgeSelect_steer (k : EdgeId) : (s.edgeSelect k).steer = s.steer := by unfold State.edgeSelect; split <;> [split <;> [skip; split]; skip] <;> simp
@[simp] theorem edgeSelect_pool (k : EdgeId) : (s.edgeSelect k).pool = s.pool := by unfold State.edgeSelect; split <;> [split <;> [skip; split]; skip] <;> simp
@[simp] theorem edgeSelect_queues (k : EdgeId) : (s.edgeSelect k).queues = s.queues := by unfold State.edgeSelect; split <;> [split <;> [skip; split]; skip] <;> simp
@[simp] theorem edgeSelect_profiles (k : EdgeId) : (s.edgeSelect k).profiles = s.profiles := by unfold State.edgeSelect; split <;> [split <;> [skip; split]; skip] <;> simp
@[simp] theorem edgeSelect_trunks (k : EdgeId) : (s.edgeSelect k).trunks = s.trunks := by unfold State.edgeSelect; split <;> [split <;> [skip; split]; skip] <;> simp
@[simp] theorem edgeSelect_mgmt (k : EdgeId) : (s.edgeSelect k).mgmt = s.mgmt := by unfold State.edgeSelect; split <;> [split <;> [skip; split]; skip] <;> simp
@[simp] theorem edgeSelect_events (k : EdgeId) : (s.edgeSelect k).events = s.events := by unfold State.edgeSelect; split <;> [split <;> [skip; split]; skip] <;> simp
@[simp] theorem edgeSelect_counters (k : EdgeId) : (s.edgeSelect k).counters = s.counters := by unfold State.edgeSelect; split <;> [split <;> [skip; split]; skip] <;> simp
@[simp] theorem edgeSelect_queue (k : EdgeId) (j : QueueId) : (s.edgeSelect k).queue j = s.queue j := by simp [State.queue]
@[simp] theorem edgeSelect_profile (k : EdgeId) (j : ProfileId) : (s.edgeSelect k).profile j = s.profile j := by simp [State.profile]
@[simp] theorem edgeSelect_trunk (k : EdgeId) (j : TrunkId) : (s.edgeSelect k).trunk j = s.trunk j := by simp [State.trunk]
@[simp] theorem edgeSelect_account (k : EdgeId) (j : AcctId) : (s.edgeSelect k).account j = s.account j := by simp [State.account]
@[simp] theorem edgeSelect_slot (k : EdgeId) (j : SlotId) : (s.edgeSelect k).slot j = s.slot j := by simp [State.slot]

@[simp] theorem select_pending (p : Port) : (s.select p).pending = s.pending := by unfold State.select; split <;> simp
@[simp] theorem select_resetLow (p : Port) : (s.select p).resetLow = s.resetLow := by unfold State.select; split <;> simp
@[simp] theorem select_now (p : Port) : (s.select p).now = s.now := by unfold State.select; split <;> simp
@[simp] theorem select_ownAddress (p : Port) : (s.select p).ownAddress = s.ownAddress := by unfold State.select; split <;> simp
@[simp] theorem select_edge (p : Port) : (s.select p).edge = s.edge := by unfold State.select; split <;> simp
@[simp] theorem select_steer (p : Port) : (s.select p).steer = s.steer := by unfold State.select; split <;> simp
@[simp] theorem select_pool (p : Port) : (s.select p).pool = s.pool := by unfold State.select; split <;> simp
@[simp] theorem select_profiles (p : Port) : (s.select p).profiles = s.profiles := by unfold State.select; split <;> simp
@[simp] theorem select_mgmt (p : Port) : (s.select p).mgmt = s.mgmt := by unfold State.select; split <;> simp
@[simp] theorem select_events (p : Port) : (s.select p).events = s.events := by unfold State.select; split <;> simp
@[simp] theorem select_profile (p : Port) (j : ProfileId) : (s.select p).profile j = s.profile j := by simp [State.profile]
@[simp] theorem select_account (p : Port) (j : AcctId) : (s.select p).account j = s.account j := by simp [State.account]
@[simp] theorem select_slot (p : Port) (j : SlotId) : (s.select p).slot j = s.slot j := by simp [State.slot]
@[simp] theorem select_counters_port (p : Port) : (s.select p).counters.port = s.counters.port := by unfold State.select; split <;> simp
@[simp] theorem select_counters_queue (p : Port) : (s.select p).counters.queue = s.counters.queue := by unfold State.select; split <;> simp
@[simp] theorem select_counters_mgmt (p : Port) : (s.select p).counters.mgmt = s.counters.mgmt := by unfold State.select; split <;> simp

@[simp] theorem place_pending (p : Port) (c : ControlFrame) : (s.place p c).pending = s.pending := by simp [State.place]
@[simp] theorem place_resetLow (p : Port) (c : ControlFrame) : (s.place p c).resetLow = s.resetLow := by simp [State.place]
@[simp] theorem place_now (p : Port) (c : ControlFrame) : (s.place p c).now = s.now := by simp [State.place]
@[simp] theorem place_ownAddress (p : Port) (c : ControlFrame) : (s.place p c).ownAddress = s.ownAddress := by simp [State.place]
@[simp] theorem place_edge (p : Port) (c : ControlFrame) : (s.place p c).edge = s.edge := by simp [State.place]
@[simp] theorem place_steer (p : Port) (c : ControlFrame) : (s.place p c).steer = s.steer := by simp [State.place]
@[simp] theorem place_pool (p : Port) (c : ControlFrame) : (s.place p c).pool = s.pool := by simp [State.place]
@[simp] theorem place_profiles (p : Port) (c : ControlFrame) : (s.place p c).profiles = s.profiles := by simp [State.place]
@[simp] theorem place_mgmt (p : Port) (c : ControlFrame) : (s.place p c).mgmt = s.mgmt := by simp [State.place]
@[simp] theorem place_events (p : Port) (c : ControlFrame) : (s.place p c).events = s.events := by simp [State.place]
@[simp] theorem place_profile (p : Port) (c : ControlFrame) (j : ProfileId) : (s.place p c).profile j = s.profile j := by simp [State.profile]
@[simp] theorem place_account (p : Port) (c : ControlFrame) (j : AcctId) : (s.place p c).account j = s.account j := by simp [State.account]
@[simp] theorem place_slot (p : Port) (c : ControlFrame) (j : SlotId) : (s.place p c).slot j = s.slot j := by simp [State.slot]
@[simp] theorem place_counters_port (p : Port) (c : ControlFrame) : (s.place p c).counters.port = s.counters.port := by simp [State.place]
@[simp] theorem place_counters_queue (p : Port) (c : ControlFrame) : (s.place p c).counters.queue = s.counters.queue := by simp [State.place]
@[simp] theorem place_counters_mgmt (p : Port) (c : ControlFrame) : (s.place p c).counters.mgmt = s.counters.mgmt := by simp [State.place]

/-! ### What starts -/

/-- R8: a selector whose transmitter is not free does nothing. -/
theorem trunkSelect_of_not_free {t : TrunkId} (h : s.free t.port = false) : s.trunkSelect t = s := by
  simp [State.trunkSelect, h]
theorem edgeSelect_of_not_free {k : EdgeId} (h : s.free k.port = false) : s.edgeSelect k = s := by
  simp [State.edgeSelect, h]
@[simp] theorem select_edgePort (k : EdgeId) : s.select k.port = s.edgeSelect k := by
  simp [State.select]
@[simp] theorem select_trunkPort (t : TrunkId) : s.select t.port = s.trunkSelect t := by
  simp [State.select]

/-- A selector changes its own port's link only. -/
theorem grant_link_ne (t : TrunkId) (q : QueueId) (l : Option (Fin 4)) {p : Port} (h : p ≠ t.port) :
    (s.grant t q l).link p = s.link p := by
  unfold State.grant; split <;> simp [h]
theorem resend_link_ne (t : TrunkId) (b : Bundle) {p : Port} (h : p ≠ t.port) : (s.resend t b).link p = s.link p := by
  simp [State.resend, h]
theorem grantNext_link_ne (t : TrunkId) {p : Port} (h : p ≠ t.port) : (s.grantNext t).link p = s.link p := by
  unfold State.grantNext; split <;> [split; skip] <;> simp [grant_link_ne, h]
theorem trunkSelect_link_ne (t : TrunkId) {p : Port} (h : p ≠ t.port) : (s.trunkSelect t).link p = s.link p := by
  unfold State.trunkSelect
  split <;> [split <;> [skip; split <;> [split; skip]]; skip] <;> simp [resend_link_ne, grantNext_link_ne, h]
theorem edgeSelect_link_ne (k : EdgeId) {p : Port} (h : p ≠ k.port) : (s.edgeSelect k).link p = s.link p := by
  unfold State.edgeSelect; split <;> [split <;> [skip; split]; skip] <;> simp [h]
theorem select_link_ne {p q : Port} (h : q ≠ p) : (s.select p).link q = s.link q := by
  rcases port_cases p with ⟨k, rfl⟩ | ⟨t, rfl⟩
  · simp [edgeSelect_link_ne, h]
  · simp [trunkSelect_link_ne, h]
@[simp] theorem place_link_ne {p q : Port} (c : ControlFrame) (h : q ≠ p) : (s.place p c).link q = s.link q := by
  simp [State.place, select_link_ne, h]

/-- A selector leaves every link state and every control list. -/
@[simp] theorem grant_link_up (t : TrunkId) (q : QueueId) (l : Option (Fin 4)) (p : Port) :
    ((s.grant t q l).link p).up = (s.link p).up := by
  unfold State.grant; split <;> simp
@[simp] theorem grant_link_control (t : TrunkId) (q : QueueId) (l : Option (Fin 4)) (p : Port) :
    ((s.grant t q l).link p).control = (s.link p).control := by
  unfold State.grant; split <;> simp
@[simp] theorem trunkSelect_link_up (t : TrunkId) (p : Port) : ((s.trunkSelect t).link p).up = (s.link p).up := by
  unfold State.trunkSelect State.grantNext State.resend
  split <;> [split <;> [skip; split <;> [split <;> [skip; (split <;> [split; skip])]; skip]]; skip] <;> simp
@[simp] theorem trunkSelect_link_control (t : TrunkId) (p : Port) :
    ((s.trunkSelect t).link p).control = (s.link p).control := by
  unfold State.trunkSelect State.grantNext State.resend
  split <;> [split <;> [skip; split <;> [split <;> [skip; (split <;> [split; skip])]; skip]]; skip] <;> simp
@[simp] theorem edgeSelect_link_up (k : EdgeId) (p : Port) : ((s.edgeSelect k).link p).up = (s.link p).up := by
  unfold State.edgeSelect; split <;> [split <;> [skip; split]; skip] <;> simp
@[simp] theorem edgeSelect_link_control (k : EdgeId) (p : Port) : ((s.edgeSelect k).link p).control = (s.link p).control := by
  unfold State.edgeSelect; split <;> [split <;> [skip; split]; skip] <;> simp
@[simp] theorem select_link_up (p q : Port) : ((s.select p).link q).up = (s.link q).up := by
  unfold State.select; split <;> simp
@[simp] theorem select_link_control (p q : Port) : ((s.select p).link q).control = (s.link q).control := by
  unfold State.select; split <;> simp
@[simp] theorem place_link_up (p q : Port) (c : ControlFrame) : ((s.place p c).link q).up = (s.link q).up := by
  by_cases h : q = p
  · subst h; simp [State.place]
  · simp [h]

/-! ### Offers -/

theorem offer_eq_linkDown {p : Port} (h : (s.link p).up = false) : s.offer p = .linkDown := by
  simp [State.offer, h]
theorem offer_eq_accepted {p : Port} (h : (s.link p).up = true) (h2 : (s.link p).control.length < 8) :
    s.offer p = .accepted := by
  simp [State.offer, h, h2, Config.controlListMax]
theorem offer_eq_full {p : Port} (h : (s.link p).up = true) (h2 : 8 ≤ (s.link p).control.length) : s.offer p = .full := by
  have : ¬ (s.link p).control.length < 8 := by omega
  simp [State.offer, h, this, Config.controlListMax]
/-- R13: an accepted offer finds the link UP and room in the control list. -/
theorem room_of_offer_accepted {p : Port} (h : s.offer p = .accepted) :
    (s.link p).up = true ∧ (s.link p).control.length < 8 := by
  unfold State.offer at h
  split at h
  · cases h
  · split at h
    · simp_all [Config.controlListMax]
    · cases h

end Sys2Proof.Machine
end

