-- ==== Sys2Proof/Laws/Notify.lean ====
section
/-! SUPPORT. What the event unit's steps leave unchanged. -/

namespace Sys2Proof.Machine

variable (s : State)

/-! ### Opportunities -/

@[simp] theorem offerNotes_pending (p : Port) (l : List SlotId) (s : State) : (s.offerNotes p l).pending = s.pending := by
  induction l generalizing s with
  | nil => rfl
  | cons i rest ih => unfold State.offerNotes; split <;> [split; skip] <;> simp [ih]
@[simp] theorem offerNotes_resetLow (p : Port) (l : List SlotId) (s : State) : (s.offerNotes p l).resetLow = s.resetLow := by
  induction l generalizing s with
  | nil => rfl
  | cons i rest ih => unfold State.offerNotes; split <;> [split; skip] <;> simp [ih]
@[simp] theorem offerNotes_now (p : Port) (l : List SlotId) (s : State) : (s.offerNotes p l).now = s.now := by
  induction l generalizing s with
  | nil => rfl
  | cons i rest ih => unfold State.offerNotes; split <;> [split; skip] <;> simp [ih]
@[simp] theorem offerNotes_ownAddress (p : Port) (l : List SlotId) (s : State) : (s.offerNotes p l).ownAddress = s.ownAddress := by
  induction l generalizing s with
  | nil => rfl
  | cons i rest ih => unfold State.offerNotes; split <;> [split; skip] <;> simp [ih]
@[simp] theorem offerNotes_edge (p : Port) (l : List SlotId) (s : State) : (s.offerNotes p l).edge = s.edge := by
  induction l generalizing s with
  | nil => rfl
  | cons i rest ih => unfold State.offerNotes; split <;> [split; skip] <;> simp [ih]
@[simp] theorem offerNotes_steer (p : Port) (l : List SlotId) (s : State) : (s.offerNotes p l).steer = s.steer := by
  induction l generalizing s with
  | nil => rfl
  | cons i rest ih => unfold State.offerNotes; split <;> [split; skip] <;> simp [ih]
@[simp] theorem offerNotes_pool (p : Port) (l : List SlotId) (s : State) : (s.offerNotes p l).pool = s.pool := by
  induction l generalizing s with
  | nil => rfl
  | cons i rest ih => unfold State.offerNotes; split <;> [split; skip] <;> simp [ih]
@[simp] theorem offerNotes_profiles (p : Port) (l : List SlotId) (s : State) : (s.offerNotes p l).profiles = s.profiles := by
  induction l generalizing s with
  | nil => rfl
  | cons i rest ih => unfold State.offerNotes; split <;> [split; skip] <;> simp [ih]
@[simp] theorem offerNotes_mgmt (p : Port) (l : List SlotId) (s : State) : (s.offerNotes p l).mgmt = s.mgmt := by
  induction l generalizing s with
  | nil => rfl
  | cons i rest ih => unfold State.offerNotes; split <;> [split; skip] <;> simp [ih]
@[simp] theorem offerNotes_counters_port (p : Port) (l : List SlotId) (s : State) :
    (s.offerNotes p l).counters.port = s.counters.port := by
  induction l generalizing s with
  | nil => rfl
  | cons i rest ih => unfold State.offerNotes; split <;> [split; skip] <;> simp [ih]
@[simp] theorem offerNotes_counters_queue (p : Port) (l : List SlotId) (s : State) :
    (s.offerNotes p l).counters.queue = s.counters.queue := by
  induction l generalizing s with
  | nil => rfl
  | cons i rest ih => unfold State.offerNotes; split <;> [split; skip] <;> simp [ih]

@[simp] theorem opportunity_pending (p : Port) : (s.opportunity p).pending = s.pending := by simp [State.opportunity]
@[simp] theorem opportunity_resetLow (p : Port) : (s.opportunity p).resetLow = s.resetLow := by simp [State.opportunity]
@[simp] theorem opportunity_now (p : Port) : (s.opportunity p).now = s.now := by simp [State.opportunity]
@[simp] theorem opportunity_ownAddress (p : Port) : (s.opportunity p).ownAddress = s.ownAddress := by simp [State.opportunity]
@[simp] theorem opportunity_edge (p : Port) : (s.opportunity p).edge = s.edge := by simp [State.opportunity]
@[simp] theorem opportunity_steer (p : Port) : (s.opportunity p).steer = s.steer := by simp [State.opportunity]
@[simp] theorem opportunity_pool (p : Port) : (s.opportunity p).pool = s.pool := by simp [State.opportunity]
@[simp] theorem opportunity_profiles (p : Port) : (s.opportunity p).profiles = s.profiles := by simp [State.opportunity]
@[simp] theorem opportunity_mgmt (p : Port) : (s.opportunity p).mgmt = s.mgmt := by simp [State.opportunity]
@[simp] theorem opportunity_profile (p : Port) (j : ProfileId) : (s.opportunity p).profile j = s.profile j := by simp [State.profile]
@[simp] theorem opportunity_account (p : Port) (j : AcctId) : (s.opportunity p).account j = s.account j := by simp [State.account]
@[simp] theorem opportunity_counters_port (p : Port) : (s.opportunity p).counters.port = s.counters.port := by simp [State.opportunity]
@[simp] theorem opportunity_counters_queue (p : Port) : (s.opportunity p).counters.queue = s.counters.queue := by simp [State.opportunity]

/-- An opportunity leaves the records, the records-lost count and the waiting raises. -/
@[simp] theorem offerNotes_records (p : Port) (l : List SlotId) (s : State) :
    (s.offerNotes p l).events.records = s.events.records := by
  induction l generalizing s with
  | nil => rfl
  | cons i rest ih => unfold State.offerNotes; split <;> [split; skip] <;> simp [ih, State.modSlot]
@[simp] theorem offerNotes_lost (p : Port) (l : List SlotId) (s : State) : (s.offerNotes p l).events.lost = s.events.lost := by
  induction l generalizing s with
  | nil => rfl
  | cons i rest ih => unfold State.offerNotes; split <;> [split; skip] <;> simp [ih, State.modSlot]
@[simp] theorem offerNotes_raised (p : Port) (l : List SlotId) (s : State) :
    (s.offerNotes p l).events.raised = s.events.raised := by
  induction l generalizing s with
  | nil => rfl
  | cons i rest ih => unfold State.offerNotes; split <;> [split; skip] <;> simp [ih, State.modSlot]
@[simp] theorem opportunity_records (p : Port) : (s.opportunity p).events.records = s.events.records := by
  simp [State.opportunity]
@[simp] theorem opportunity_lost (p : Port) : (s.opportunity p).events.lost = s.events.lost := by
  simp [State.opportunity]
@[simp] theorem opportunity_raised (p : Port) : (s.opportunity p).events.raised = s.events.raised := by
  simp [State.opportunity]
@[simp] theorem offerNotes_link_up (p q : Port) (l : List SlotId) (s : State) :
    ((s.offerNotes p l).link q).up = (s.link q).up := by
  induction l generalizing s with
  | nil => rfl
  | cons i rest ih => unfold State.offerNotes; split <;> [split; skip] <;> simp [ih]
@[simp] theorem opportunity_link_up (p q : Port) : ((s.opportunity p).link q).up = (s.link q).up := by
  simp [State.opportunity]
theorem offerNotes_link_ne {p q : Port} (l : List SlotId) (s : State) (h : q ≠ p) :
    (s.offerNotes p l).link q = s.link q := by
  induction l generalizing s with
  | nil => rfl
  | cons i rest ih => unfold State.offerNotes; split <;> [split; skip] <;> simp [ih, h]
theorem opportunity_link_ne {p q : Port} (h : q ≠ p) : (s.opportunity p).link q = s.link q := by
  simp [State.opportunity, offerNotes_link_ne, h]

/-! ### Taking a raise -/

@[simp] theorem record_pending (r : Raise) : (s.record r).pending = s.pending := by simp [State.record]
@[simp] theorem record_resetLow (r : Raise) : (s.record r).resetLow = s.resetLow := by simp [State.record]
@[simp] theorem record_now (r : Raise) : (s.record r).now = s.now := by simp [State.record]
@[simp] theorem record_ownAddress (r : Raise) : (s.record r).ownAddress = s.ownAddress := by simp [State.record]
@[simp] theorem record_links (r : Raise) : (s.record r).links = s.links := by simp [State.record]
@[simp] theorem record_edge (r : Raise) : (s.record r).edge = s.edge := by simp [State.record]
@[simp] theorem record_steer (r : Raise) : (s.record r).steer = s.steer := by simp [State.record]
@[simp] theorem record_pool (r : Raise) : (s.record r).pool = s.pool := by simp [State.record]
@[simp] theorem record_queues (r : Raise) : (s.record r).queues = s.queues := by simp [State.record]
@[simp] theorem record_profiles (r : Raise) : (s.record r).profiles = s.profiles := by simp [State.record]
@[simp] theorem record_trunks (r : Raise) : (s.record r).trunks = s.trunks := by simp [State.record]
@[simp] theorem record_mgmt (r : Raise) : (s.record r).mgmt = s.mgmt := by simp [State.record]
@[simp] theorem record_counters (r : Raise) : (s.record r).counters = s.counters := by simp [State.record]
@[simp] theorem record_link (r : Raise) (j : Port) : (s.record r).link j = s.link j := by simp [State.link]
@[simp] theorem record_queue (r : Raise) (j : QueueId) : (s.record r).queue j = s.queue j := by simp [State.queue]
@[simp] theorem record_profile (r : Raise) (j : ProfileId) : (s.record r).profile j = s.profile j := by simp [State.profile]
@[simp] theorem record_trunk (r : Raise) (j : TrunkId) : (s.record r).trunk j = s.trunk j := by simp [State.trunk]
@[simp] theorem record_account (r : Raise) (j : AcctId) : (s.record r).account j = s.account j := by simp [State.account]

@[simp] theorem actSlots_pending (ks : List EventKind) : (s.actSlots ks).pending = s.pending := by simp [State.actSlots]
@[simp] theorem actSlots_resetLow (ks : List EventKind) : (s.actSlots ks).resetLow = s.resetLow := by simp [State.actSlots]
@[simp] theorem actSlots_now (ks : List EventKind) : (s.actSlots ks).now = s.now := by simp [State.actSlots]
@[simp] theorem actSlots_ownAddress (ks : List EventKind) : (s.actSlots ks).ownAddress = s.ownAddress := by simp [State.actSlots]
@[simp] theorem actSlots_links (ks : List EventKind) : (s.actSlots ks).links = s.links := by simp [State.actSlots]
@[simp] theorem actSlots_edge (ks : List EventKind) : (s.actSlots ks).edge = s.edge := by simp [State.actSlots]
@[simp] theorem actSlots_steer (ks : List EventKind) : (s.actSlots ks).steer = s.steer := by simp [State.actSlots]
@[simp] theorem actSlots_pool (ks : List EventKind) : (s.actSlots ks).pool = s.pool := by simp [State.actSlots]
@[simp] theorem actSlots_queues (ks : List EventKind) : (s.actSlots ks).queues = s.queues := by simp [State.actSlots]
@[simp] theorem actSlots_profiles (ks : List EventKind) : (s.actSlots ks).profiles = s.profiles := by simp [State.actSlots]
@[simp] theorem actSlots_trunks (ks : List EventKind) : (s.actSlots ks).trunks = s.trunks := by simp [State.actSlots]
@[simp] theorem actSlots_mgmt (ks : List EventKind) : (s.actSlots ks).mgmt = s.mgmt := by simp [State.actSlots]
@[simp] theorem actSlots_counters (ks : List EventKind) : (s.actSlots ks).counters = s.counters := by simp [State.actSlots]
@[simp] theorem actSlots_link (ks : List EventKind) (j : Port) : (s.actSlots ks).link j = s.link j := by simp [State.link]
@[simp] theorem actSlots_queue (ks : List EventKind) (j : QueueId) : (s.actSlots ks).queue j = s.queue j := by simp [State.queue]
@[simp] theorem actSlots_profile (ks : List EventKind) (j : ProfileId) : (s.actSlots ks).profile j = s.profile j := by simp [State.profile]
@[simp] theorem actSlots_trunk (ks : List EventKind) (j : TrunkId) : (s.actSlots ks).trunk j = s.trunk j := by simp [State.trunk]
@[simp] theorem actSlots_account (ks : List EventKind) (j : AcctId) : (s.actSlots ks).account j = s.account j := by simp [State.account]

/-- What a fold of opportunities leaves unchanged. -/
theorem foldl_opportunity {α : Type} (g : State → α) (h : ∀ (s : State) (p : Port), g (s.opportunity p) = g s)
    (ps : List Port) (s : State) : g (ps.foldl State.opportunity s) = g s := by
  induction ps generalizing s with
  | nil => rfl
  | cons p rest ih => simp [ih, h]

@[simp] theorem takeRaise_pending (r : Raise) : (s.takeRaise r).pending = s.pending := by
  unfold State.takeRaise; rw [foldl_opportunity State.pending (fun _ _ => by simp)]; simp
@[simp] theorem takeRaise_resetLow (r : Raise) : (s.takeRaise r).resetLow = s.resetLow := by
  unfold State.takeRaise; rw [foldl_opportunity State.resetLow (fun _ _ => by simp)]; simp
@[simp] theorem takeRaise_now (r : Raise) : (s.takeRaise r).now = s.now := by
  unfold State.takeRaise; rw [foldl_opportunity State.now (fun _ _ => by simp)]; simp
@[simp] theorem takeRaise_ownAddress (r : Raise) : (s.takeRaise r).ownAddress = s.ownAddress := by
  unfold State.takeRaise; rw [foldl_opportunity State.ownAddress (fun _ _ => by simp)]; simp
@[simp] theorem takeRaise_edge (r : Raise) : (s.takeRaise r).edge = s.edge := by
  unfold State.takeRaise; rw [foldl_opportunity State.edge (fun _ _ => by simp)]; simp
@[simp] theorem takeRaise_steer (r : Raise) : (s.takeRaise r).steer = s.steer := by
  unfold State.takeRaise; rw [foldl_opportunity State.steer (fun _ _ => by simp)]; simp
@[simp] theorem takeRaise_pool (r : Raise) : (s.takeRaise r).pool = s.pool := by
  unfold State.takeRaise; rw [foldl_opportunity State.pool (fun _ _ => by simp)]; simp
@[simp] theorem takeRaise_profiles (r : Raise) : (s.takeRaise r).profiles = s.profiles := by
  unfold State.takeRaise; rw [foldl_opportunity State.profiles (fun _ _ => by simp)]; simp
@[simp] theorem takeRaise_mgmt (r : Raise) : (s.takeRaise r).mgmt = s.mgmt := by
  unfold State.takeRaise; rw [foldl_opportunity State.mgmt (fun _ _ => by simp)]; simp
@[simp] theorem takeRaise_counters_port (r : Raise) : (s.takeRaise r).counters.port = s.counters.port := by
  unfold State.takeRaise; rw [foldl_opportunity (fun u => u.counters.port) (fun _ _ => by simp)]; simp
@[simp] theorem takeRaise_counters_queue (r : Raise) : (s.takeRaise r).counters.queue = s.counters.queue := by
  unfold State.takeRaise; rw [foldl_opportunity (fun u => u.counters.queue) (fun _ _ => by simp)]; simp
@[simp] theorem takeRaise_raised (r : Raise) : (s.takeRaise r).events.raised = s.events.raised := by
  unfold State.takeRaise
  rw [foldl_opportunity (fun u => u.events.raised) (fun _ _ => by simp)]
  simp only [State.actSlots, State.record, modEvents_events]; split <;> rfl
@[simp] theorem takeRaise_link_up (r : Raise) (q : Port) : ((s.takeRaise r).link q).up = (s.link q).up := by
  unfold State.takeRaise
  rw [foldl_opportunity (fun u => (u.link q).up) (fun _ _ => by simp)]; simp
@[simp] theorem takeRaises_pending (rs : List Raise) (s : State) : (s.takeRaises rs).pending = s.pending := by
  induction rs generalizing s with
  | nil => rfl
  | cons r rest ih => simpa [State.takeRaises] using ih (s.takeRaise r)
@[simp] theorem takeRaises_resetLow (rs : List Raise) (s : State) : (s.takeRaises rs).resetLow = s.resetLow := by
  induction rs generalizing s with
  | nil => rfl
  | cons r rest ih => simpa [State.takeRaises] using ih (s.takeRaise r)
@[simp] theorem takeRaises_now (rs : List Raise) (s : State) : (s.takeRaises rs).now = s.now := by
  induction rs generalizing s with
  | nil => rfl
  | cons r rest ih => simpa [State.takeRaises] using ih (s.takeRaise r)
@[simp] theorem takeRaises_ownAddress (rs : List Raise) (s : State) : (s.takeRaises rs).ownAddress = s.ownAddress := by
  induction rs generalizing s with
  | nil => rfl
  | cons r rest ih => simpa [State.takeRaises] using ih (s.takeRaise r)
@[simp] theorem takeRaises_edge (rs : List Raise) (s : State) : (s.takeRaises rs).edge = s.edge := by
  induction rs generalizing s with
  | nil => rfl
  | cons r rest ih => simpa [State.takeRaises] using ih (s.takeRaise r)
@[simp] theorem takeRaises_steer (rs : List Raise) (s : State) : (s.takeRaises rs).steer = s.steer := by
  induction rs generalizing s with
  | nil => rfl
  | cons r rest ih => simpa [State.takeRaises] using ih (s.takeRaise r)
@[simp] theorem takeRaises_pool (rs : List Raise) (s : State) : (s.takeRaises rs).pool = s.pool := by
  induction rs generalizing s with
  | nil => rfl
  | cons r rest ih => simpa [State.takeRaises] using ih (s.takeRaise r)
@[simp] theorem takeRaises_profiles (rs : List Raise) (s : State) : (s.takeRaises rs).profiles = s.profiles := by
  induction rs generalizing s with
  | nil => rfl
  | cons r rest ih => simpa [State.takeRaises] using ih (s.takeRaise r)
@[simp] theorem takeRaises_mgmt (rs : List Raise) (s : State) : (s.takeRaises rs).mgmt = s.mgmt := by
  induction rs generalizing s with
  | nil => rfl
  | cons r rest ih => simpa [State.takeRaises] using ih (s.takeRaise r)
@[simp] theorem takeRaises_counters_port (rs : List Raise) (s : State) :
    (s.takeRaises rs).counters.port = s.counters.port := by
  induction rs generalizing s with
  | nil => rfl
  | cons r rest ih => simpa [State.takeRaises] using ih (s.takeRaise r)
@[simp] theorem takeRaises_counters_queue (rs : List Raise) (s : State) :
    (s.takeRaises rs).counters.queue = s.counters.queue := by
  induction rs generalizing s with
  | nil => rfl
  | cons r rest ih => simpa [State.takeRaises] using ih (s.takeRaise r)
@[simp] theorem takeRaises_raised (rs : List Raise) (s : State) : (s.takeRaises rs).events.raised = s.events.raised := by
  induction rs generalizing s with
  | nil => rfl
  | cons r rest ih => simpa [State.takeRaises] using ih (s.takeRaise r)
@[simp] theorem takeRaises_link_up (rs : List Raise) (q : Port) (s : State) :
    ((s.takeRaises rs).link q).up = (s.link q).up := by
  induction rs generalizing s with
  | nil => rfl
  | cons r rest ih => simpa [State.takeRaises] using ih (s.takeRaise r)

@[simp] theorem takeArrival_pending (b : Block) : (s.takeArrival b).pending = s.pending := by unfold State.takeArrival; split <;> simp
@[simp] theorem takeArrival_resetLow (b : Block) : (s.takeArrival b).resetLow = s.resetLow := by unfold State.takeArrival; split <;> simp
@[simp] theorem takeArrival_now (b : Block) : (s.takeArrival b).now = s.now := by unfold State.takeArrival; split <;> simp
@[simp] theorem takeArrival_ownAddress (b : Block) : (s.takeArrival b).ownAddress = s.ownAddress := by unfold State.takeArrival; split <;> simp
@[simp] theorem takeArrival_edge (b : Block) : (s.takeArrival b).edge = s.edge := by unfold State.takeArrival; split <;> simp
@[simp] theorem takeArrival_steer (b : Block) : (s.takeArrival b).steer = s.steer := by unfold State.takeArrival; split <;> simp
@[simp] theorem takeArrival_pool (b : Block) : (s.takeArrival b).pool = s.pool := by unfold State.takeArrival; split <;> simp
@[simp] theorem takeArrival_profiles (b : Block) : (s.takeArrival b).profiles = s.profiles := by unfold State.takeArrival; split <;> simp
@[simp] theorem takeArrival_mgmt (b : Block) : (s.takeArrival b).mgmt = s.mgmt := by unfold State.takeArrival; split <;> simp
@[simp] theorem takeArrival_profile (b : Block) (j : ProfileId) : (s.takeArrival b).profile j = s.profile j := by simp [State.profile]
@[simp] theorem takeArrival_account (b : Block) (j : AcctId) : (s.takeArrival b).account j = s.account j := by simp [State.account]
@[simp] theorem takeArrival_counters_port (b : Block) : (s.takeArrival b).counters.port = s.counters.port := by unfold State.takeArrival; split <;> simp
@[simp] theorem takeArrival_counters_queue (b : Block) : (s.takeArrival b).counters.queue = s.counters.queue := by unfold State.takeArrival; split <;> simp

@[simp] theorem takeAllOf_pending (b : Block) : (s.takeAllOf b).pending = s.pending := by simp [State.takeAllOf]
@[simp] theorem takeAllOf_resetLow (b : Block) : (s.takeAllOf b).resetLow = s.resetLow := by simp [State.takeAllOf]
@[simp] theorem takeAllOf_now (b : Block) : (s.takeAllOf b).now = s.now := by simp [State.takeAllOf]
@[simp] theorem takeAllOf_ownAddress (b : Block) : (s.takeAllOf b).ownAddress = s.ownAddress := by simp [State.takeAllOf]
@[simp] theorem takeAllOf_edge (b : Block) : (s.takeAllOf b).edge = s.edge := by simp [State.takeAllOf]
@[simp] theorem takeAllOf_steer (b : Block) : (s.takeAllOf b).steer = s.steer := by simp [State.takeAllOf]
@[simp] theorem takeAllOf_pool (b : Block) : (s.takeAllOf b).pool = s.pool := by simp [State.takeAllOf]
@[simp] theorem takeAllOf_profiles (b : Block) : (s.takeAllOf b).profiles = s.profiles := by simp [State.takeAllOf]
@[simp] theorem takeAllOf_mgmt (b : Block) : (s.takeAllOf b).mgmt = s.mgmt := by simp [State.takeAllOf]
@[simp] theorem takeAllOf_profile (b : Block) (j : ProfileId) : (s.takeAllOf b).profile j = s.profile j := by simp [State.profile]
@[simp] theorem takeAllOf_account (b : Block) (j : AcctId) : (s.takeAllOf b).account j = s.account j := by simp [State.account]
@[simp] theorem takeAllOf_counters_port (b : Block) : (s.takeAllOf b).counters.port = s.counters.port := by simp [State.takeAllOf]
@[simp] theorem takeAllOf_counters_queue (b : Block) : (s.takeAllOf b).counters.queue = s.counters.queue := by simp [State.takeAllOf]

/-! ### Sets of kinds -/

/-- R21: a kind is in a set when the set's bit of its code is 1. -/
theorem EventKind.code_lt (k : EventKind) : k.code < 16 := by cases k <;> decide

theorem getLsbD_bit (k : EventKind) (i : Nat) : k.bit.getLsbD i = decide (i = k.code) := by
  by_cases hi : i < 16
  · have h : ∀ n : Fin 16, k.bit.getLsbD n.val = decide (n.val = k.code) := by cases k <;> decide
    exact h ⟨i, hi⟩
  · have := k.code_lt
    rw [BitVec.getLsbD_of_ge _ _ (by omega)]
    have : i ≠ k.code := by omega
    simp [this]

theorem and_bit (x : Half) (k : EventKind) : (x &&& k.bit != 0) = x.getLsbD k.code := by
  cases h : x.getLsbD k.code
  · rw [bne_eq_false_iff_eq]
    apply BitVec.eq_of_getLsbD_eq
    intro i hi
    rw [BitVec.getLsbD_and, getLsbD_bit]
    by_cases e : i = k.code
    · subst e; simp only [h, Bool.false_and, BitVec.ofNat_eq_ofNat, BitVec.getLsbD_zero]
    · simp only [e, decide_false, Bool.and_false, BitVec.ofNat_eq_ofNat, BitVec.getLsbD_zero]
  · rw [bne_iff_ne]
    intro e
    have := congrArg (fun y : Half => y.getLsbD k.code) e
    simp only [BitVec.getLsbD_and, getLsbD_bit, h, decide_true, Bool.and_true, BitVec.ofNat_eq_ofNat,
      BitVec.getLsbD_zero, Bool.true_eq_false] at this

/-- The bits of a set after a union, a removal, an intersection. -/
theorem and_bit_eq_zero (x : Half) (k : EventKind) : (x &&& k.bit == 0) = !x.getLsbD k.code := by
  rw [← and_bit, bne, Bool.not_not]

end Sys2Proof.Machine
end

