-- ==== Sys2Proof/Laws/Queues.lean ====
section
/-! SUPPORT. What the steps of the queue unit and of the delivery window leave unchanged. -/

namespace Sys2Proof.Machine

variable (s : State)

/-! ### Batch formation -/

@[simp] theorem closeOpen_pending (q : QueueId) (r : CloseReason) : (s.closeOpen q r).pending = s.pending := by unfold State.closeOpen; split <;> simp
@[simp] theorem closeOpen_resetLow (q : QueueId) (r : CloseReason) : (s.closeOpen q r).resetLow = s.resetLow := by unfold State.closeOpen; split <;> simp
@[simp] theorem closeOpen_now (q : QueueId) (r : CloseReason) : (s.closeOpen q r).now = s.now := by unfold State.closeOpen; split <;> simp
@[simp] theorem closeOpen_ownAddress (q : QueueId) (r : CloseReason) : (s.closeOpen q r).ownAddress = s.ownAddress := by unfold State.closeOpen; split <;> simp
@[simp] theorem closeOpen_links (q : QueueId) (r : CloseReason) : (s.closeOpen q r).links = s.links := by unfold State.closeOpen; split <;> simp
@[simp] theorem closeOpen_edge (q : QueueId) (r : CloseReason) : (s.closeOpen q r).edge = s.edge := by unfold State.closeOpen; split <;> simp
@[simp] theorem closeOpen_steer (q : QueueId) (r : CloseReason) : (s.closeOpen q r).steer = s.steer := by unfold State.closeOpen; split <;> simp
@[simp] theorem closeOpen_pool (q : QueueId) (r : CloseReason) : (s.closeOpen q r).pool = s.pool := by unfold State.closeOpen; split <;> simp
@[simp] theorem closeOpen_profiles (q : QueueId) (r : CloseReason) : (s.closeOpen q r).profiles = s.profiles := by unfold State.closeOpen; split <;> simp
@[simp] theorem closeOpen_trunks (q : QueueId) (r : CloseReason) : (s.closeOpen q r).trunks = s.trunks := by unfold State.closeOpen; split <;> simp
@[simp] theorem closeOpen_mgmt (q : QueueId) (r : CloseReason) : (s.closeOpen q r).mgmt = s.mgmt := by unfold State.closeOpen; split <;> simp
@[simp] theorem closeOpen_events (q : QueueId) (r : CloseReason) : (s.closeOpen q r).events = s.events := by unfold State.closeOpen; split <;> simp
@[simp] theorem closeOpen_link (q : QueueId) (r : CloseReason) (j : Port) : (s.closeOpen q r).link j = s.link j := by simp [State.link]
@[simp] theorem closeOpen_profile (q : QueueId) (r : CloseReason) (j : ProfileId) : (s.closeOpen q r).profile j = s.profile j := by simp [State.profile]
@[simp] theorem closeOpen_trunk (q : QueueId) (r : CloseReason) (j : TrunkId) : (s.closeOpen q r).trunk j = s.trunk j := by simp [State.trunk]
@[simp] theorem closeOpen_account (q : QueueId) (r : CloseReason) (j : AcctId) : (s.closeOpen q r).account j = s.account j := by simp [State.account]
@[simp] theorem closeOpen_slot (q : QueueId) (r : CloseReason) (j : SlotId) : (s.closeOpen q r).slot j = s.slot j := by simp [State.slot]
@[simp] theorem closeOpen_counters_port (q : QueueId) (r : CloseReason) : (s.closeOpen q r).counters.port = s.counters.port := by unfold State.closeOpen; split <;> simp
@[simp] theorem closeOpen_counters_trunk (q : QueueId) (r : CloseReason) : (s.closeOpen q r).counters.trunk = s.counters.trunk := by unfold State.closeOpen; split <;> simp
@[simp] theorem closeOpen_counters_mgmt (q : QueueId) (r : CloseReason) : (s.closeOpen q r).counters.mgmt = s.counters.mgmt := by unfold State.closeOpen; split <;> simp

@[simp] theorem testLimits_pending (q : QueueId) : (s.testLimits q).pending = s.pending := by unfold State.testLimits; split <;> [skip; split <;> [skip; split]] <;> simp
@[simp] theorem testLimits_resetLow (q : QueueId) : (s.testLimits q).resetLow = s.resetLow := by unfold State.testLimits; split <;> [skip; split <;> [skip; split]] <;> simp
@[simp] theorem testLimits_now (q : QueueId) : (s.testLimits q).now = s.now := by unfold State.testLimits; split <;> [skip; split <;> [skip; split]] <;> simp
@[simp] theorem testLimits_ownAddress (q : QueueId) : (s.testLimits q).ownAddress = s.ownAddress := by unfold State.testLimits; split <;> [skip; split <;> [skip; split]] <;> simp
@[simp] theorem testLimits_links (q : QueueId) : (s.testLimits q).links = s.links := by unfold State.testLimits; split <;> [skip; split <;> [skip; split]] <;> simp
@[simp] theorem testLimits_edge (q : QueueId) : (s.testLimits q).edge = s.edge := by unfold State.testLimits; split <;> [skip; split <;> [skip; split]] <;> simp
@[simp] theorem testLimits_steer (q : QueueId) : (s.testLimits q).steer = s.steer := by unfold State.testLimits; split <;> [skip; split <;> [skip; split]] <;> simp
@[simp] theorem testLimits_pool (q : QueueId) : (s.testLimits q).pool = s.pool := by unfold State.testLimits; split <;> [skip; split <;> [skip; split]] <;> simp
@[simp] theorem testLimits_profiles (q : QueueId) : (s.testLimits q).profiles = s.profiles := by unfold State.testLimits; split <;> [skip; split <;> [skip; split]] <;> simp
@[simp] theorem testLimits_trunks (q : QueueId) : (s.testLimits q).trunks = s.trunks := by unfold State.testLimits; split <;> [skip; split <;> [skip; split]] <;> simp
@[simp] theorem testLimits_mgmt (q : QueueId) : (s.testLimits q).mgmt = s.mgmt := by unfold State.testLimits; split <;> [skip; split <;> [skip; split]] <;> simp
@[simp] theorem testLimits_events (q : QueueId) : (s.testLimits q).events = s.events := by unfold State.testLimits; split <;> [skip; split <;> [skip; split]] <;> simp
@[simp] theorem testLimits_link (q : QueueId) (j : Port) : (s.testLimits q).link j = s.link j := by simp [State.link]
@[simp] theorem testLimits_profile (q : QueueId) (j : ProfileId) : (s.testLimits q).profile j = s.profile j := by simp [State.profile]
@[simp] theorem testLimits_trunk (q : QueueId) (j : TrunkId) : (s.testLimits q).trunk j = s.trunk j := by simp [State.trunk]
@[simp] theorem testLimits_account (q : QueueId) (j : AcctId) : (s.testLimits q).account j = s.account j := by simp [State.account]
@[simp] theorem testLimits_slot (q : QueueId) (j : SlotId) : (s.testLimits q).slot j = s.slot j := by simp [State.slot]
@[simp] theorem testLimits_counters_port (q : QueueId) : (s.testLimits q).counters.port = s.counters.port := by unfold State.testLimits; split <;> [skip; split <;> [skip; split]] <;> simp
@[simp] theorem testLimits_counters_trunk (q : QueueId) : (s.testLimits q).counters.trunk = s.counters.trunk := by unfold State.testLimits; split <;> [skip; split <;> [skip; split]] <;> simp
@[simp] theorem testLimits_counters_mgmt (q : QueueId) : (s.testLimits q).counters.mgmt = s.counters.mgmt := by unfold State.testLimits; split <;> [skip; split <;> [skip; split]] <;> simp

@[simp] theorem store_pending (q : QueueId) (m : Member) : (s.store q m).pending = s.pending := by unfold State.store; split <;> simp
@[simp] theorem store_resetLow (q : QueueId) (m : Member) : (s.store q m).resetLow = s.resetLow := by unfold State.store; split <;> simp
@[simp] theorem store_now (q : QueueId) (m : Member) : (s.store q m).now = s.now := by unfold State.store; split <;> simp
@[simp] theorem store_ownAddress (q : QueueId) (m : Member) : (s.store q m).ownAddress = s.ownAddress := by unfold State.store; split <;> simp
@[simp] theorem store_links (q : QueueId) (m : Member) : (s.store q m).links = s.links := by unfold State.store; split <;> simp
@[simp] theorem store_edge (q : QueueId) (m : Member) : (s.store q m).edge = s.edge := by unfold State.store; split <;> simp
@[simp] theorem store_steer (q : QueueId) (m : Member) : (s.store q m).steer = s.steer := by unfold State.store; split <;> simp
@[simp] theorem store_pool (q : QueueId) (m : Member) : (s.store q m).pool = s.pool := by unfold State.store; split <;> simp
@[simp] theorem store_profiles (q : QueueId) (m : Member) : (s.store q m).profiles = s.profiles := by unfold State.store; split <;> simp
@[simp] theorem store_trunks (q : QueueId) (m : Member) : (s.store q m).trunks = s.trunks := by unfold State.store; split <;> simp
@[simp] theorem store_mgmt (q : QueueId) (m : Member) : (s.store q m).mgmt = s.mgmt := by unfold State.store; split <;> simp
@[simp] theorem store_events (q : QueueId) (m : Member) : (s.store q m).events = s.events := by unfold State.store; split <;> simp
@[simp] theorem store_link (q : QueueId) (m : Member) (j : Port) : (s.store q m).link j = s.link j := by simp [State.link]
@[simp] theorem store_profile (q : QueueId) (m : Member) (j : ProfileId) : (s.store q m).profile j = s.profile j := by simp [State.profile]
@[simp] theorem store_trunk (q : QueueId) (m : Member) (j : TrunkId) : (s.store q m).trunk j = s.trunk j := by simp [State.trunk]
@[simp] theorem store_account (q : QueueId) (m : Member) (j : AcctId) : (s.store q m).account j = s.account j := by simp [State.account]
@[simp] theorem store_slot (q : QueueId) (m : Member) (j : SlotId) : (s.store q m).slot j = s.slot j := by simp [State.slot]
@[simp] theorem store_counters_port (q : QueueId) (m : Member) : (s.store q m).counters.port = s.counters.port := by unfold State.store; split <;> simp
@[simp] theorem store_counters_trunk (q : QueueId) (m : Member) : (s.store q m).counters.trunk = s.counters.trunk := by unfold State.store; split <;> simp
@[simp] theorem store_counters_mgmt (q : QueueId) (m : Member) : (s.store q m).counters.mgmt = s.counters.mgmt := by unfold State.store; split <;> simp

@[simp] theorem offerClosed_pending (q : QueueId) (n : Nat) : (s.offerClosed q n).pending = s.pending := by unfold State.offerClosed; split <;> simp
@[simp] theorem offerClosed_resetLow (q : QueueId) (n : Nat) : (s.offerClosed q n).resetLow = s.resetLow := by unfold State.offerClosed; split <;> simp
@[simp] theorem offerClosed_now (q : QueueId) (n : Nat) : (s.offerClosed q n).now = s.now := by unfold State.offerClosed; split <;> simp
@[simp] theorem offerClosed_ownAddress (q : QueueId) (n : Nat) : (s.offerClosed q n).ownAddress = s.ownAddress := by unfold State.offerClosed; split <;> simp
@[simp] theorem offerClosed_edge (q : QueueId) (n : Nat) : (s.offerClosed q n).edge = s.edge := by unfold State.offerClosed; split <;> simp
@[simp] theorem offerClosed_steer (q : QueueId) (n : Nat) : (s.offerClosed q n).steer = s.steer := by unfold State.offerClosed; split <;> simp
@[simp] theorem offerClosed_pool (q : QueueId) (n : Nat) : (s.offerClosed q n).pool = s.pool := by unfold State.offerClosed; split <;> simp
@[simp] theorem offerClosed_profiles (q : QueueId) (n : Nat) : (s.offerClosed q n).profiles = s.profiles := by unfold State.offerClosed; split <;> simp
@[simp] theorem offerClosed_mgmt (q : QueueId) (n : Nat) : (s.offerClosed q n).mgmt = s.mgmt := by unfold State.offerClosed; split <;> simp
@[simp] theorem offerClosed_events (q : QueueId) (n : Nat) : (s.offerClosed q n).events = s.events := by unfold State.offerClosed; split <;> simp
@[simp] theorem offerClosed_profile (q : QueueId) (n : Nat) (j : ProfileId) : (s.offerClosed q n).profile j = s.profile j := by simp [State.profile]
@[simp] theorem offerClosed_account (q : QueueId) (n : Nat) (j : AcctId) : (s.offerClosed q n).account j = s.account j := by simp [State.account]
@[simp] theorem offerClosed_slot (q : QueueId) (n : Nat) (j : SlotId) : (s.offerClosed q n).slot j = s.slot j := by simp [State.slot]
@[simp] theorem offerClosed_counters_port (q : QueueId) (n : Nat) : (s.offerClosed q n).counters.port = s.counters.port := by unfold State.offerClosed; split <;> simp
@[simp] theorem offerClosed_counters_queue (q : QueueId) (n : Nat) : (s.offerClosed q n).counters.queue = s.counters.queue := by unfold State.offerClosed; split <;> simp
@[simp] theorem offerClosed_counters_mgmt (q : QueueId) (n : Nat) : (s.offerClosed q n).counters.mgmt = s.counters.mgmt := by unfold State.offerClosed; split <;> simp

@[simp] theorem enrol_pending (q : QueueId) (m : Member) : (s.enrol q m).pending = s.pending := by unfold State.enrol; split <;> [(simp only; split); skip] <;> simp
@[simp] theorem enrol_resetLow (q : QueueId) (m : Member) : (s.enrol q m).resetLow = s.resetLow := by unfold State.enrol; split <;> [(simp only; split); skip] <;> simp
@[simp] theorem enrol_now (q : QueueId) (m : Member) : (s.enrol q m).now = s.now := by unfold State.enrol; split <;> [(simp only; split); skip] <;> simp
@[simp] theorem enrol_ownAddress (q : QueueId) (m : Member) : (s.enrol q m).ownAddress = s.ownAddress := by unfold State.enrol; split <;> [(simp only; split); skip] <;> simp
@[simp] theorem enrol_edge (q : QueueId) (m : Member) : (s.enrol q m).edge = s.edge := by unfold State.enrol; split <;> [(simp only; split); skip] <;> simp
@[simp] theorem enrol_steer (q : QueueId) (m : Member) : (s.enrol q m).steer = s.steer := by unfold State.enrol; split <;> [(simp only; split); skip] <;> simp
@[simp] theorem enrol_profiles (q : QueueId) (m : Member) : (s.enrol q m).profiles = s.profiles := by unfold State.enrol; split <;> [(simp only; split); skip] <;> simp
@[simp] theorem enrol_mgmt (q : QueueId) (m : Member) : (s.enrol q m).mgmt = s.mgmt := by unfold State.enrol; split <;> [(simp only; split); skip] <;> simp
@[simp] theorem enrol_profile (q : QueueId) (m : Member) (j : ProfileId) : (s.enrol q m).profile j = s.profile j := by simp [State.profile]
@[simp] theorem enrol_counters_port (q : QueueId) (m : Member) : (s.enrol q m).counters.port = s.counters.port := by unfold State.enrol; split <;> [(simp only; split); skip] <;> simp
@[simp] theorem enrol_counters_mgmt (q : QueueId) (m : Member) : (s.enrol q m).counters.mgmt = s.counters.mgmt := by unfold State.enrol; split <;> [(simp only; split); skip] <;> simp

theorem closeOpen_queue_ne {q j : QueueId} (r : CloseReason) (h : j ≠ q) : (s.closeOpen q r).queue j = s.queue j := by
  unfold State.closeOpen; split <;> simp [h]
/-- R80: what closing the open batch does to its queue. -/
theorem closeOpen_some {q : QueueId} {b : Batch} (r : CloseReason) (h : (s.queue q).openBatch = some b) :
    s.closeOpen q r =
      (s.modQueue q fun u => { u with openBatch := none, ready := u.ready ++ [b.closed r] }).countQueue q r.counter 1 := by
  simp [State.closeOpen, h]
theorem closeOpen_none {q : QueueId} (r : CloseReason) (h : (s.queue q).openBatch = none) : s.closeOpen q r = s := by
  simp [State.closeOpen, h]

/-! ### Drain completion and release -/

@[simp] theorem drainTest_fst_pending (q : QueueId) : (s.drainTest q).1.pending = s.pending := by unfold State.drainTest; split <;> simp
@[simp] theorem drainTest_fst_resetLow (q : QueueId) : (s.drainTest q).1.resetLow = s.resetLow := by unfold State.drainTest; split <;> simp
@[simp] theorem drainTest_fst_now (q : QueueId) : (s.drainTest q).1.now = s.now := by unfold State.drainTest; split <;> simp
@[simp] theorem drainTest_fst_ownAddress (q : QueueId) : (s.drainTest q).1.ownAddress = s.ownAddress := by unfold State.drainTest; split <;> simp
@[simp] theorem drainTest_fst_links (q : QueueId) : (s.drainTest q).1.links = s.links := by unfold State.drainTest; split <;> simp
@[simp] theorem drainTest_fst_edge (q : QueueId) : (s.drainTest q).1.edge = s.edge := by unfold State.drainTest; split <;> simp
@[simp] theorem drainTest_fst_steer (q : QueueId) : (s.drainTest q).1.steer = s.steer := by unfold State.drainTest; split <;> simp
@[simp] theorem drainTest_fst_pool (q : QueueId) : (s.drainTest q).1.pool = s.pool := by unfold State.drainTest; split <;> simp
@[simp] theorem drainTest_fst_profiles (q : QueueId) : (s.drainTest q).1.profiles = s.profiles := by unfold State.drainTest; split <;> simp
@[simp] theorem drainTest_fst_trunks (q : QueueId) : (s.drainTest q).1.trunks = s.trunks := by unfold State.drainTest; split <;> simp
@[simp] theorem drainTest_fst_mgmt (q : QueueId) : (s.drainTest q).1.mgmt = s.mgmt := by unfold State.drainTest; split <;> simp
@[simp] theorem drainTest_fst_events (q : QueueId) : (s.drainTest q).1.events = s.events := by unfold State.drainTest; split <;> simp
@[simp] theorem drainTest_fst_counters (q : QueueId) : (s.drainTest q).1.counters = s.counters := by unfold State.drainTest; split <;> simp
@[simp] theorem drainTest_fst_link (q : QueueId) (j : Port) : (s.drainTest q).1.link j = s.link j := by simp [State.link]
@[simp] theorem drainTest_fst_profile (q : QueueId) (j : ProfileId) : (s.drainTest q).1.profile j = s.profile j := by simp [State.profile]
@[simp] theorem drainTest_fst_trunk (q : QueueId) (j : TrunkId) : (s.drainTest q).1.trunk j = s.trunk j := by simp [State.trunk]
@[simp] theorem drainTest_fst_account (q : QueueId) (j : AcctId) : (s.drainTest q).1.account j = s.account j := by simp [State.account]
@[simp] theorem drainTest_fst_slot (q : QueueId) (j : SlotId) : (s.drainTest q).1.slot j = s.slot j := by simp [State.slot]

@[simp] theorem releaseBundle_pending (t : TrunkId) (b : Bundle) : (s.releaseBundle t b).pending = s.pending := by simp [State.releaseBundle]
@[simp] theorem releaseBundle_resetLow (t : TrunkId) (b : Bundle) : (s.releaseBundle t b).resetLow = s.resetLow := by simp [State.releaseBundle]
@[simp] theorem releaseBundle_now (t : TrunkId) (b : Bundle) : (s.releaseBundle t b).now = s.now := by simp [State.releaseBundle]
@[simp] theorem releaseBundle_ownAddress (t : TrunkId) (b : Bundle) : (s.releaseBundle t b).ownAddress = s.ownAddress := by simp [State.releaseBundle]
@[simp] theorem releaseBundle_links (t : TrunkId) (b : Bundle) : (s.releaseBundle t b).links = s.links := by simp [State.releaseBundle]
@[simp] theorem releaseBundle_edge (t : TrunkId) (b : Bundle) : (s.releaseBundle t b).edge = s.edge := by simp [State.releaseBundle]
@[simp] theorem releaseBundle_steer (t : TrunkId) (b : Bundle) : (s.releaseBundle t b).steer = s.steer := by simp [State.releaseBundle]
@[simp] theorem releaseBundle_profiles (t : TrunkId) (b : Bundle) : (s.releaseBundle t b).profiles = s.profiles := by simp [State.releaseBundle]
@[simp] theorem releaseBundle_mgmt (t : TrunkId) (b : Bundle) : (s.releaseBundle t b).mgmt = s.mgmt := by simp [State.releaseBundle]
@[simp] theorem releaseBundle_counters (t : TrunkId) (b : Bundle) : (s.releaseBundle t b).counters = s.counters := by simp [State.releaseBundle]
@[simp] theorem releaseBundle_link (t : TrunkId) (b : Bundle) (j : Port) : (s.releaseBundle t b).link j = s.link j := by simp [State.link]
@[simp] theorem releaseBundle_profile (t : TrunkId) (b : Bundle) (j : ProfileId) : (s.releaseBundle t b).profile j = s.profile j := by simp [State.profile]

@[simp] theorem retire_fst_pending (t : TrunkId) (b : Bundle) : (s.retire t b).1.pending = s.pending := by simp [State.retire]
@[simp] theorem retire_fst_resetLow (t : TrunkId) (b : Bundle) : (s.retire t b).1.resetLow = s.resetLow := by simp [State.retire]
@[simp] theorem retire_fst_now (t : TrunkId) (b : Bundle) : (s.retire t b).1.now = s.now := by simp [State.retire]
@[simp] theorem retire_fst_ownAddress (t : TrunkId) (b : Bundle) : (s.retire t b).1.ownAddress = s.ownAddress := by simp [State.retire]
@[simp] theorem retire_fst_links (t : TrunkId) (b : Bundle) : (s.retire t b).1.links = s.links := by simp [State.retire]
@[simp] theorem retire_fst_edge (t : TrunkId) (b : Bundle) : (s.retire t b).1.edge = s.edge := by simp [State.retire]
@[simp] theorem retire_fst_steer (t : TrunkId) (b : Bundle) : (s.retire t b).1.steer = s.steer := by simp [State.retire]
@[simp] theorem retire_fst_profiles (t : TrunkId) (b : Bundle) : (s.retire t b).1.profiles = s.profiles := by simp [State.retire]
@[simp] theorem retire_fst_mgmt (t : TrunkId) (b : Bundle) : (s.retire t b).1.mgmt = s.mgmt := by simp [State.retire]
@[simp] theorem retire_fst_link (t : TrunkId) (b : Bundle) (j : Port) : (s.retire t b).1.link j = s.link j := by simp [State.link]
@[simp] theorem retire_fst_profile (t : TrunkId) (b : Bundle) (j : ProfileId) : (s.retire t b).1.profile j = s.profile j := by simp [State.profile]
@[simp] theorem retire_fst_counters_port (t : TrunkId) (b : Bundle) : (s.retire t b).1.counters.port = s.counters.port := by simp [State.retire]
@[simp] theorem retire_fst_counters_trunk (t : TrunkId) (b : Bundle) : (s.retire t b).1.counters.trunk = s.counters.trunk := by simp [State.retire]
@[simp] theorem retire_fst_counters_mgmt (t : TrunkId) (b : Bundle) : (s.retire t b).1.counters.mgmt = s.counters.mgmt := by simp [State.retire]

@[simp] theorem abandon_fst_pending (t : TrunkId) (b : Bundle) : (s.abandon t b).1.pending = s.pending := by simp [State.abandon]
@[simp] theorem abandon_fst_resetLow (t : TrunkId) (b : Bundle) : (s.abandon t b).1.resetLow = s.resetLow := by simp [State.abandon]
@[simp] theorem abandon_fst_now (t : TrunkId) (b : Bundle) : (s.abandon t b).1.now = s.now := by simp [State.abandon]
@[simp] theorem abandon_fst_ownAddress (t : TrunkId) (b : Bundle) : (s.abandon t b).1.ownAddress = s.ownAddress := by simp [State.abandon]
@[simp] theorem abandon_fst_links (t : TrunkId) (b : Bundle) : (s.abandon t b).1.links = s.links := by simp [State.abandon]
@[simp] theorem abandon_fst_edge (t : TrunkId) (b : Bundle) : (s.abandon t b).1.edge = s.edge := by simp [State.abandon]
@[simp] theorem abandon_fst_steer (t : TrunkId) (b : Bundle) : (s.abandon t b).1.steer = s.steer := by simp [State.abandon]
@[simp] theorem abandon_fst_profiles (t : TrunkId) (b : Bundle) : (s.abandon t b).1.profiles = s.profiles := by simp [State.abandon]
@[simp] theorem abandon_fst_mgmt (t : TrunkId) (b : Bundle) : (s.abandon t b).1.mgmt = s.mgmt := by simp [State.abandon]
@[simp] theorem abandon_fst_link (t : TrunkId) (b : Bundle) (j : Port) : (s.abandon t b).1.link j = s.link j := by simp [State.link]
@[simp] theorem abandon_fst_profile (t : TrunkId) (b : Bundle) (j : ProfileId) : (s.abandon t b).1.profile j = s.profile j := by simp [State.profile]
@[simp] theorem abandon_fst_counters_port (t : TrunkId) (b : Bundle) : (s.abandon t b).1.counters.port = s.counters.port := by simp [State.abandon]
@[simp] theorem abandon_fst_counters_mgmt (t : TrunkId) (b : Bundle) : (s.abandon t b).1.counters.mgmt = s.counters.mgmt := by simp [State.abandon]

@[simp] theorem windowEmptied_pending (t : TrunkId) : (s.windowEmptied t).pending = s.pending := by unfold State.windowEmptied; split <;> [split; skip] <;> simp
@[simp] theorem windowEmptied_resetLow (t : TrunkId) : (s.windowEmptied t).resetLow = s.resetLow := by unfold State.windowEmptied; split <;> [split; skip] <;> simp
@[simp] theorem windowEmptied_now (t : TrunkId) : (s.windowEmptied t).now = s.now := by unfold State.windowEmptied; split <;> [split; skip] <;> simp
@[simp] theorem windowEmptied_ownAddress (t : TrunkId) : (s.windowEmptied t).ownAddress = s.ownAddress := by unfold State.windowEmptied; split <;> [split; skip] <;> simp
@[simp] theorem windowEmptied_links (t : TrunkId) : (s.windowEmptied t).links = s.links := by unfold State.windowEmptied; split <;> [split; skip] <;> simp
@[simp] theorem windowEmptied_edge (t : TrunkId) : (s.windowEmptied t).edge = s.edge := by unfold State.windowEmptied; split <;> [split; skip] <;> simp
@[simp] theorem windowEmptied_steer (t : TrunkId) : (s.windowEmptied t).steer = s.steer := by unfold State.windowEmptied; split <;> [split; skip] <;> simp
@[simp] theorem windowEmptied_pool (t : TrunkId) : (s.windowEmptied t).pool = s.pool := by unfold State.windowEmptied; split <;> [split; skip] <;> simp
@[simp] theorem windowEmptied_queues (t : TrunkId) : (s.windowEmptied t).queues = s.queues := by unfold State.windowEmptied; split <;> [split; skip] <;> simp
@[simp] theorem windowEmptied_profiles (t : TrunkId) : (s.windowEmptied t).profiles = s.profiles := by unfold State.windowEmptied; split <;> [split; skip] <;> simp
@[simp] theorem windowEmptied_mgmt (t : TrunkId) : (s.windowEmptied t).mgmt = s.mgmt := by unfold State.windowEmptied; split <;> [split; skip] <;> simp
@[simp] theorem windowEmptied_events (t : TrunkId) : (s.windowEmptied t).events = s.events := by unfold State.windowEmptied; split <;> [split; skip] <;> simp
@[simp] theorem windowEmptied_counters (t : TrunkId) : (s.windowEmptied t).counters = s.counters := by unfold State.windowEmptied; split <;> [split; skip] <;> simp
@[simp] theorem windowEmptied_link (t : TrunkId) (j : Port) : (s.windowEmptied t).link j = s.link j := by simp [State.link]
@[simp] theorem windowEmptied_queue (t : TrunkId) (j : QueueId) : (s.windowEmptied t).queue j = s.queue j := by simp [State.queue]
@[simp] theorem windowEmptied_profile (t : TrunkId) (j : ProfileId) : (s.windowEmptied t).profile j = s.profile j := by simp [State.profile]
@[simp] theorem windowEmptied_account (t : TrunkId) (j : AcctId) : (s.windowEmptied t).account j = s.account j := by simp [State.account]
@[simp] theorem windowEmptied_slot (t : TrunkId) (j : SlotId) : (s.windowEmptied t).slot j = s.slot j := by simp [State.slot]
@[simp] theorem windowEmptied_counters_port (t : TrunkId) : (s.windowEmptied t).counters.port = s.counters.port := by unfold State.windowEmptied; split <;> [split; skip] <;> simp
@[simp] theorem windowEmptied_counters_queue (t : TrunkId) : (s.windowEmptied t).counters.queue = s.counters.queue := by unfold State.windowEmptied; split <;> [split; skip] <;> simp
@[simp] theorem windowEmptied_counters_trunk (t : TrunkId) : (s.windowEmptied t).counters.trunk = s.counters.trunk := by unfold State.windowEmptied; split <;> [split; skip] <;> simp
@[simp] theorem windowEmptied_counters_mgmt (t : TrunkId) : (s.windowEmptied t).counters.mgmt = s.counters.mgmt := by unfold State.windowEmptied; split <;> [split; skip] <;> simp

/-- R86: the drain completion test turns the queue off, or does nothing. -/
theorem drainTest_eq (q : QueueId) : s.drainTest q =
    if s.drained q then (s.modQueue q Queue.turnedOff, [raiseOf .queueOff q.val 1]) else (s, []) := rfl

/-- R62: after a release the window is without the first bundle with that sequence. -/
theorem releaseBundle_trunk_self (t : TrunkId) (b : Bundle) : (s.releaseBundle t b).trunk t =
    { s.trunk t with bundles := (s.trunk t).bundles.eraseP fun x => x.seq == b.seq } := by
  simp [State.releaseBundle]
theorem releaseBundle_trunk_ne {t i : TrunkId} (b : Bundle) (h : i ≠ t) : (s.releaseBundle t b).trunk i = s.trunk i := by
  simp [State.releaseBundle, h]
theorem releaseBundle_queue_self (t : TrunkId) (b : Bundle) : (s.releaseBundle t b).queue b.batch.queue =
    { s.queue b.batch.queue with outstanding := (s.queue b.batch.queue).outstanding - 1 } := by
  simp [State.releaseBundle]
theorem releaseBundle_queue_ne (t : TrunkId) (b : Bundle) {q : QueueId} (h : q ≠ b.batch.queue) :
    (s.releaseBundle t b).queue q = s.queue q := by
  simp [State.releaseBundle, h]

@[simp] theorem retire_fst_trunk_self (t : TrunkId) (b : Bundle) : (s.retire t b).1.trunk t =
    { s.trunk t with bundles := (s.trunk t).bundles.eraseP fun x => x.seq == b.seq } := by
  simp [State.retire, releaseBundle_trunk_self]
theorem retire_fst_trunk_ne {t i : TrunkId} (b : Bundle) (h : i ≠ t) : (s.retire t b).1.trunk i = s.trunk i := by
  simp [State.retire, releaseBundle_trunk_ne, h]
@[simp] theorem abandon_fst_trunk_self (t : TrunkId) (b : Bundle) : (s.abandon t b).1.trunk t =
    { s.trunk t with bundles := (s.trunk t).bundles.eraseP fun x => x.seq == b.seq } := by
  simp [State.abandon, releaseBundle_trunk_self]
theorem abandon_fst_trunk_ne {t i : TrunkId} (b : Bundle) (h : i ≠ t) : (s.abandon t b).1.trunk i = s.trunk i := by
  simp [State.abandon, releaseBundle_trunk_ne, h]

/-! ### Acknowledgement, hold expiry, drain expiry, purge -/

@[simp] theorem ackOne_fst_pending (t : TrunkId) (x : State × List Raise) (seq : Byte) : (State.ackOne t x seq).1.pending = x.1.pending := by unfold State.ackOne; split <;> [skip; split <;> [skip; split]] <;> simp
@[simp] theorem ackOne_fst_resetLow (t : TrunkId) (x : State × List Raise) (seq : Byte) : (State.ackOne t x seq).1.resetLow = x.1.resetLow := by unfold State.ackOne; split <;> [skip; split <;> [skip; split]] <;> simp
@[simp] theorem ackOne_fst_now (t : TrunkId) (x : State × List Raise) (seq : Byte) : (State.ackOne t x seq).1.now = x.1.now := by unfold State.ackOne; split <;> [skip; split <;> [skip; split]] <;> simp
@[simp] theorem ackOne_fst_ownAddress (t : TrunkId) (x : State × List Raise) (seq : Byte) : (State.ackOne t x seq).1.ownAddress = x.1.ownAddress := by unfold State.ackOne; split <;> [skip; split <;> [skip; split]] <;> simp
@[simp] theorem ackOne_fst_links (t : TrunkId) (x : State × List Raise) (seq : Byte) : (State.ackOne t x seq).1.links = x.1.links := by unfold State.ackOne; split <;> [skip; split <;> [skip; split]] <;> simp
@[simp] theorem ackOne_fst_edge (t : TrunkId) (x : State × List Raise) (seq : Byte) : (State.ackOne t x seq).1.edge = x.1.edge := by unfold State.ackOne; split <;> [skip; split <;> [skip; split]] <;> simp
@[simp] theorem ackOne_fst_steer (t : TrunkId) (x : State × List Raise) (seq : Byte) : (State.ackOne t x seq).1.steer = x.1.steer := by unfold State.ackOne; split <;> [skip; split <;> [skip; split]] <;> simp
@[simp] theorem ackOne_fst_profiles (t : TrunkId) (x : State × List Raise) (seq : Byte) : (State.ackOne t x seq).1.profiles = x.1.profiles := by unfold State.ackOne; split <;> [skip; split <;> [skip; split]] <;> simp
@[simp] theorem ackOne_fst_mgmt (t : TrunkId) (x : State × List Raise) (seq : Byte) : (State.ackOne t x seq).1.mgmt = x.1.mgmt := by unfold State.ackOne; split <;> [skip; split <;> [skip; split]] <;> simp
@[simp] theorem ackOne_fst_link (t : TrunkId) (x : State × List Raise) (seq : Byte) (j : Port) : (State.ackOne t x seq).1.link j = x.1.link j := by simp [State.link]
@[simp] theorem ackOne_fst_profile (t : TrunkId) (x : State × List Raise) (seq : Byte) (j : ProfileId) : (State.ackOne t x seq).1.profile j = x.1.profile j := by simp [State.profile]
@[simp] theorem ackOne_fst_counters_port (t : TrunkId) (x : State × List Raise) (seq : Byte) : (State.ackOne t x seq).1.counters.port = x.1.counters.port := by unfold State.ackOne; split <;> [skip; split <;> [skip; split]] <;> simp
@[simp] theorem ackOne_fst_counters_mgmt (t : TrunkId) (x : State × List Raise) (seq : Byte) : (State.ackOne t x seq).1.counters.mgmt = x.1.counters.mgmt := by unfold State.ackOne; split <;> [skip; split <;> [skip; split]] <;> simp

theorem foldl_ackOne {α : Type} (g : State → α) (t : TrunkId)
    (h : ∀ (x : State × List Raise) (seq : Byte), g (State.ackOne t x seq).1 = g x.1) (l : List Byte)
    (x : State × List Raise) : g (l.foldl (State.ackOne t) x).1 = g x.1 := by
  induction l generalizing x with
  | nil => rfl
  | cons a rest ih => simp [ih, h]

@[simp] theorem takeAck_pending (t : TrunkId) (l : List Byte) : (s.takeAck t l).pending = s.pending := by
  unfold State.takeAck
  split
  · simp
  · simp only
    split <;> simp [foldl_ackOne State.pending t (fun _ _ => by simp)]
@[simp] theorem takeAck_resetLow (t : TrunkId) (l : List Byte) : (s.takeAck t l).resetLow = s.resetLow := by
  unfold State.takeAck
  split
  · simp
  · simp only
    split <;> simp [foldl_ackOne State.resetLow t (fun _ _ => by simp)]
@[simp] theorem takeAck_now (t : TrunkId) (l : List Byte) : (s.takeAck t l).now = s.now := by
  unfold State.takeAck
  split
  · simp
  · simp only
    split <;> simp [foldl_ackOne State.now t (fun _ _ => by simp)]
@[simp] theorem takeAck_ownAddress (t : TrunkId) (l : List Byte) : (s.takeAck t l).ownAddress = s.ownAddress := by
  unfold State.takeAck
  split
  · simp
  · simp only
    split <;> simp [foldl_ackOne State.ownAddress t (fun _ _ => by simp)]
@[simp] theorem takeAck_edge (t : TrunkId) (l : List Byte) : (s.takeAck t l).edge = s.edge := by
  unfold State.takeAck
  split
  · simp
  · simp only
    split <;> simp [foldl_ackOne State.edge t (fun _ _ => by simp)]
@[simp] theorem takeAck_steer (t : TrunkId) (l : List Byte) : (s.takeAck t l).steer = s.steer := by
  unfold State.takeAck
  split
  · simp
  · simp only
    split <;> simp [foldl_ackOne State.steer t (fun _ _ => by simp)]
@[simp] theorem takeAck_profiles (t : TrunkId) (l : List Byte) : (s.takeAck t l).profiles = s.profiles := by
  unfold State.takeAck
  split
  · simp
  · simp only
    split <;> simp [foldl_ackOne State.profiles t (fun _ _ => by simp)]
@[simp] theorem takeAck_mgmt (t : TrunkId) (l : List Byte) : (s.takeAck t l).mgmt = s.mgmt := by
  unfold State.takeAck
  split
  · simp
  · simp only
    split <;> simp [foldl_ackOne State.mgmt t (fun _ _ => by simp)]
@[simp] theorem takeAck_counters_port (t : TrunkId) (l : List Byte) :
    (s.takeAck t l).counters.port = s.counters.port := by
  unfold State.takeAck
  split
  · simp
  · simp only
    split <;> simp [foldl_ackOne (fun u => u.counters.port) t (fun _ _ => by simp)]
@[simp] theorem takeAck_counters_mgmt (t : TrunkId) (l : List Byte) :
    (s.takeAck t l).counters.mgmt = s.counters.mgmt := by
  unfold State.takeAck
  split
  · simp
  · simp only
    split <;> simp [foldl_ackOne (fun u => u.counters.mgmt) t (fun _ _ => by simp)]

theorem foldl_abandon {α : Type} (g : State → α) (t : TrunkId) (h : ∀ (s : State) (b : Bundle), g (s.abandon t b).1 = g s)
    (l : List Bundle) (x : State × List Raise) :
    g (l.foldl (fun acc b => ((acc.1.abandon t b).1, acc.2 ++ (acc.1.abandon t b).2)) x).1 = g x.1 := by
  induction l generalizing x with
  | nil => rfl
  | cons a rest ih => simp [ih, h]

@[simp] theorem abandonAll_fst_pending (t : TrunkId) : (s.abandonAll t).1.pending = s.pending := by
  unfold State.abandonAll; rw [foldl_abandon State.pending t (fun _ _ => by simp)]
@[simp] theorem abandonAll_fst_resetLow (t : TrunkId) : (s.abandonAll t).1.resetLow = s.resetLow := by
  unfold State.abandonAll; rw [foldl_abandon State.resetLow t (fun _ _ => by simp)]
@[simp] theorem abandonAll_fst_now (t : TrunkId) : (s.abandonAll t).1.now = s.now := by
  unfold State.abandonAll; rw [foldl_abandon State.now t (fun _ _ => by simp)]
@[simp] theorem abandonAll_fst_ownAddress (t : TrunkId) : (s.abandonAll t).1.ownAddress = s.ownAddress := by
  unfold State.abandonAll; rw [foldl_abandon State.ownAddress t (fun _ _ => by simp)]
@[simp] theorem abandonAll_fst_links (t : TrunkId) : (s.abandonAll t).1.links = s.links := by
  unfold State.abandonAll; rw [foldl_abandon State.links t (fun _ _ => by simp)]
@[simp] theorem abandonAll_fst_edge (t : TrunkId) : (s.abandonAll t).1.edge = s.edge := by
  unfold State.abandonAll; rw [foldl_abandon State.edge t (fun _ _ => by simp)]
@[simp] theorem abandonAll_fst_steer (t : TrunkId) : (s.abandonAll t).1.steer = s.steer := by
  unfold State.abandonAll; rw [foldl_abandon State.steer t (fun _ _ => by simp)]
@[simp] theorem abandonAll_fst_profiles (t : TrunkId) : (s.abandonAll t).1.profiles = s.profiles := by
  unfold State.abandonAll; rw [foldl_abandon State.profiles t (fun _ _ => by simp)]
@[simp] theorem abandonAll_fst_mgmt (t : TrunkId) : (s.abandonAll t).1.mgmt = s.mgmt := by
  unfold State.abandonAll; rw [foldl_abandon State.mgmt t (fun _ _ => by simp)]
@[simp] theorem abandonAll_fst_counters_port (t : TrunkId) : (s.abandonAll t).1.counters.port = s.counters.port := by
  unfold State.abandonAll; rw [foldl_abandon (fun u => u.counters.port) t (fun _ _ => by simp)]
@[simp] theorem abandonAll_fst_counters_mgmt (t : TrunkId) : (s.abandonAll t).1.counters.mgmt = s.counters.mgmt := by
  unfold State.abandonAll; rw [foldl_abandon (fun u => u.counters.mgmt) t (fun _ _ => by simp)]

@[simp] theorem holdExpires_pending (t : TrunkId) : (s.holdExpires t).pending = s.pending := by simp [State.holdExpires]
@[simp] theorem holdExpires_resetLow (t : TrunkId) : (s.holdExpires t).resetLow = s.resetLow := by simp [State.holdExpires]
@[simp] theorem holdExpires_now (t : TrunkId) : (s.holdExpires t).now = s.now := by simp [State.holdExpires]
@[simp] theorem holdExpires_ownAddress (t : TrunkId) : (s.holdExpires t).ownAddress = s.ownAddress := by simp [State.holdExpires]
@[simp] theorem holdExpires_links (t : TrunkId) : (s.holdExpires t).links = s.links := by simp [State.holdExpires]
@[simp] theorem holdExpires_edge (t : TrunkId) : (s.holdExpires t).edge = s.edge := by simp [State.holdExpires]
@[simp] theorem holdExpires_steer (t : TrunkId) : (s.holdExpires t).steer = s.steer := by simp [State.holdExpires]
@[simp] theorem holdExpires_profiles (t : TrunkId) : (s.holdExpires t).profiles = s.profiles := by simp [State.holdExpires]
@[simp] theorem holdExpires_mgmt (t : TrunkId) : (s.holdExpires t).mgmt = s.mgmt := by simp [State.holdExpires]
@[simp] theorem holdExpires_link (t : TrunkId) (j : Port) : (s.holdExpires t).link j = s.link j := by simp [State.link]
@[simp] theorem holdExpires_profile (t : TrunkId) (j : ProfileId) : (s.holdExpires t).profile j = s.profile j := by simp [State.profile]
@[simp] theorem holdExpires_counters_port (t : TrunkId) : (s.holdExpires t).counters.port = s.counters.port := by simp [State.holdExpires]
@[simp] theorem holdExpires_counters_mgmt (t : TrunkId) : (s.holdExpires t).counters.mgmt = s.counters.mgmt := by simp [State.holdExpires]

@[simp] theorem drainExpires_pending (q : QueueId) : (s.drainExpires q).pending = s.pending := by unfold State.drainExpires; simp only; split <;> split <;> simp
@[simp] theorem drainExpires_resetLow (q : QueueId) : (s.drainExpires q).resetLow = s.resetLow := by unfold State.drainExpires; simp only; split <;> split <;> simp
@[simp] theorem drainExpires_now (q : QueueId) : (s.drainExpires q).now = s.now := by unfold State.drainExpires; simp only; split <;> split <;> simp
@[simp] theorem drainExpires_ownAddress (q : QueueId) : (s.drainExpires q).ownAddress = s.ownAddress := by unfold State.drainExpires; simp only; split <;> split <;> simp
@[simp] theorem drainExpires_edge (q : QueueId) : (s.drainExpires q).edge = s.edge := by unfold State.drainExpires; simp only; split <;> split <;> simp
@[simp] theorem drainExpires_steer (q : QueueId) : (s.drainExpires q).steer = s.steer := by unfold State.drainExpires; simp only; split <;> split <;> simp
@[simp] theorem drainExpires_profiles (q : QueueId) : (s.drainExpires q).profiles = s.profiles := by unfold State.drainExpires; simp only; split <;> split <;> simp
@[simp] theorem drainExpires_mgmt (q : QueueId) : (s.drainExpires q).mgmt = s.mgmt := by unfold State.drainExpires; simp only; split <;> split <;> simp
@[simp] theorem drainExpires_profile (q : QueueId) (j : ProfileId) : (s.drainExpires q).profile j = s.profile j := by simp [State.profile]
@[simp] theorem drainExpires_counters_port (q : QueueId) : (s.drainExpires q).counters.port = s.counters.port := by unfold State.drainExpires; simp only; split <;> split <;> simp
@[simp] theorem drainExpires_counters_mgmt (q : QueueId) : (s.drainExpires q).counters.mgmt = s.counters.mgmt := by unfold State.drainExpires; simp only; split <;> split <;> simp

@[simp] theorem purge_pending (q : QueueId) : (s.purge q).pending = s.pending := by simp [State.purge]
@[simp] theorem purge_resetLow (q : QueueId) : (s.purge q).resetLow = s.resetLow := by simp [State.purge]
@[simp] theorem purge_now (q : QueueId) : (s.purge q).now = s.now := by simp [State.purge]
@[simp] theorem purge_ownAddress (q : QueueId) : (s.purge q).ownAddress = s.ownAddress := by simp [State.purge]
@[simp] theorem purge_links (q : QueueId) : (s.purge q).links = s.links := by simp [State.purge]
@[simp] theorem purge_edge (q : QueueId) : (s.purge q).edge = s.edge := by simp [State.purge]
@[simp] theorem purge_steer (q : QueueId) : (s.purge q).steer = s.steer := by simp [State.purge]
@[simp] theorem purge_profiles (q : QueueId) : (s.purge q).profiles = s.profiles := by simp [State.purge]
@[simp] theorem purge_trunks (q : QueueId) : (s.purge q).trunks = s.trunks := by simp [State.purge]
@[simp] theorem purge_mgmt (q : QueueId) : (s.purge q).mgmt = s.mgmt := by simp [State.purge]
@[simp] theorem purge_link (q : QueueId) (j : Port) : (s.purge q).link j = s.link j := by simp [State.link]
@[simp] theorem purge_profile (q : QueueId) (j : ProfileId) : (s.purge q).profile j = s.profile j := by simp [State.profile]
@[simp] theorem purge_trunk (q : QueueId) (j : TrunkId) : (s.purge q).trunk j = s.trunk j := by simp [State.trunk]
@[simp] theorem purge_counters_port (q : QueueId) : (s.purge q).counters.port = s.counters.port := by simp [State.purge]
@[simp] theorem purge_counters_trunk (q : QueueId) : (s.purge q).counters.trunk = s.counters.trunk := by simp [State.purge]
@[simp] theorem purge_counters_mgmt (q : QueueId) : (s.purge q).counters.mgmt = s.counters.mgmt := by simp [State.purge]

/-! ### What a release and an abandonment change -/

theorem drainTest_fst_outstanding (q j : QueueId) : ((s.drainTest q).1.queue j).outstanding = (s.queue j).outstanding := by
  rw [drainTest_eq]
  split
  · by_cases h : j = q
    · subst h; simp [Queue.turnedOff]
    · simp [h]
  · rfl

theorem abandon_fst_outstanding (t : TrunkId) (b : Bundle) (q : QueueId) : ((s.abandon t b).1.queue q).outstanding =
    (s.queue q).outstanding - if b.batch.queue = q then 1 else 0 := by
  simp only [State.abandon, drainTest_fst_outstanding, countTrunk_queue, countQueue_queue]
  by_cases h : b.batch.queue = q
  · subst h; simp [releaseBundle_queue_self]
  · have h' : q ≠ b.batch.queue := fun e => h e.symm
    simp [releaseBundle_queue_ne, h, h']

theorem abandon_fst_pool (t : TrunkId) (b : Bundle) : (s.abandon t b).1.pool.freeCells = s.pool.freeCells + b.batch.cells ∧
    (s.abandon t b).1.pool.freeDescriptors = s.pool.freeDescriptors + 1 ∧
    (s.abandon t b).1.pool.lowWater = s.pool.lowWater := by
  simp [State.abandon, State.releaseBundle]

theorem abandon_fst_account (t : TrunkId) (b : Bundle) (a : AcctId) : (s.abandon t b).1.account a =
    { s.account a with inUse := (s.account a).inUse - if b.batch.queue.acct = a then b.batch.cells else 0 } := by
  simp only [State.abandon, drainTest_fst_account, countTrunk_account, countQueue_account, State.releaseBundle, modQueue_account]
  by_cases h : b.batch.queue.acct = a
  · subst h; simp
  · have h' : a ≠ b.batch.queue.acct := fun e => h e.symm
    simp [h, h']

theorem abandon_fst_framesAbandoned (t : TrunkId) (b : Bundle) (q : QueueId) :
    (s.abandon t b).1.queueCounter q .framesAbandoned =
      satAdd (s.queueCounter q .framesAbandoned) (if b.batch.queue = q then b.batch.members.length else 0) := by
  unfold State.abandon
  rw [queueCounter_congr (congrArg Counters.queue (drainTest_fst_counters _ _)), queueCounter_congr (countTrunk_counters_queue _ _ _ _)]
  by_cases h : b.batch.queue = q
  · subst h; rw [countQueue_self, queueCounter_congr (t := s) (by simp)]; simp
  · rw [countQueue_ne _ _ _ _ _ _ (Or.inl fun e => h e.symm), queueCounter_congr (t := s) (by simp)]; simp [h]

theorem abandon_fst_bundlesAbandoned (t : TrunkId) (b : Bundle) :
    (s.abandon t b).1.trunkCounter t .bundlesAbandoned = satAdd (s.trunkCounter t .bundlesAbandoned) 1 := by
  unfold State.abandon
  rw [trunkCounter_congr (congrArg Counters.trunk (drainTest_fst_counters _ _)), countTrunk_self, trunkCounter_congr (t := s) (by simp)]

/-- R69: what a release of one bundle adds to the waiting raises. -/
theorem abandon_fst_events (t : TrunkId) (b : Bundle) : ∃ pool, (∀ a ∈ pool, a.block = Block.cellPool) ∧
    (s.abandon t b).1.events = { s.events with raised := s.events.raised ++ pool } := by
  obtain ⟨l, h1, h2⟩ := release_raised (s.modTrunk t fun k => { k with bundles := k.bundles.eraseP fun x => x.seq == b.seq })
    b.batch.queue.acct b.batch.cells 1
  refine ⟨l, h2, ?_⟩
  simp only [State.abandon, drainTest_fst_events, countTrunk_events, countQueue_events, State.releaseBundle, modQueue_events]
  rw [release_events, h1]; simp
theorem retire_fst_events (t : TrunkId) (b : Bundle) : ∃ pool, (∀ a ∈ pool, a.block = Block.cellPool) ∧
    (s.retire t b).1.events = { s.events with raised := s.events.raised ++ pool } := by
  obtain ⟨l, h1, h2⟩ := release_raised (s.modTrunk t fun k => { k with bundles := k.bundles.eraseP fun x => x.seq == b.seq })
    b.batch.queue.acct b.batch.cells 1
  refine ⟨l, h2, ?_⟩
  simp only [State.retire, drainTest_fst_events, countQueue_events, State.releaseBundle, modQueue_events]
  rw [release_events, h1]; simp
theorem drainTest_snd_mem {q : QueueId} {e : Raise} (h : e ∈ (s.drainTest q).2) : e.kind = .queueOff ∧ e.detail = 1 := by
  rw [drainTest_eq] at h
  split at h
  · simp only [List.mem_singleton] at h; subst h; exact ⟨rfl, rfl⟩
  · cases h

/-- R102: what abandoning the bundles `l`, the whole window, does, from a state with the raises `es` collected so far. -/
theorem foldl_abandon_spec (t : TrunkId) (l : List Bundle) (x : State × List Raise) (h : (x.1.trunk t).bundles = l)
    (r : State × List Raise)
    (hr : r = l.foldl (fun acc b => ((acc.1.abandon t b).1, acc.2 ++ (acc.1.abandon t b).2)) x) :
    r.1.trunk t = { x.1.trunk t with bundles := [] } ∧ (∀ i, i ≠ t → r.1.trunk i = x.1.trunk i) ∧
      (∀ q, (r.1.queue q).outstanding = (x.1.queue q).outstanding - (l.filter fun b => b.batch.queue == q).length) ∧
      (∀ q, r.1.queueCounter q .framesAbandoned = satAdd (x.1.queueCounter q .framesAbandoned)
        ((l.filter fun b => b.batch.queue == q).map fun b => b.batch.members.length).sum) ∧
      r.1.trunkCounter t .bundlesAbandoned = satAdd (x.1.trunkCounter t .bundlesAbandoned) l.length ∧
      r.1.pool.freeDescriptors = x.1.pool.freeDescriptors + l.length ∧
      r.1.pool.freeCells = x.1.pool.freeCells + (l.map fun b => b.batch.cells).sum ∧
      (∃ pool, (∀ a ∈ pool, a.block = Block.cellPool) ∧
        r.1.events = { x.1.events with raised := x.1.events.raised ++ pool }) ∧
      ∃ offs, r.2 = x.2 ++ offs ∧ ∀ e ∈ offs, e.kind = .queueOff ∧ e.detail = 1 := by
  induction l generalizing x with
  | nil =>
    subst hr
    refine ⟨?_, fun _ _ => rfl, by simp, by simp, by simp, by simp, by simp, ⟨[], by simp, by simp⟩, [], by simp, by simp⟩
    rw [← h]
  | cons b l ih =>
    have hb : (((x.1.abandon t b).1).trunk t).bundles = l := by simp [h]
    obtain ⟨h1, h2, h3, h4, h5, h6, h7, ⟨p, h8, h8'⟩, o, h9, h9'⟩ :=
      ih ((x.1.abandon t b).1, x.2 ++ (x.1.abandon t b).2) hb (by rw [hr, List.foldl_cons])
    obtain ⟨p', h10, h10'⟩ := abandon_fst_events x.1 t b
    refine ⟨?_, ?_, ?_, ?_, ?_, ?_, ?_, ⟨p' ++ p, ?_, ?_⟩, (x.1.abandon t b).2 ++ o, ?_, ?_⟩
    · rw [h1]; simp
    · intro i hi; rw [h2 i hi, abandon_fst_trunk_ne _ _ hi]
    · intro q; rw [h3 q, abandon_fst_outstanding]
      by_cases e : b.batch.queue = q
      · simp [e]; omega
      · simp [e]
    · intro q; rw [h4 q, abandon_fst_framesAbandoned, satAdd_satAdd]
      by_cases e : b.batch.queue = q <;> simp [e]
    · rw [h5, abandon_fst_bundlesAbandoned, satAdd_satAdd]; simp [Nat.add_comm]
    · rw [h6, (abandon_fst_pool _ _ _).2.1]; simp; omega
    · rw [h7, (abandon_fst_pool _ _ _).1]; simp; omega
    · intro a ha
      rcases List.mem_append.1 ha with ha | ha
      · exact h10 a ha
      · exact h8 a ha
    · rw [h8', h10']; simp
    · rw [h9]; simp
    · intro e he
      rcases List.mem_append.1 he with he | he
      · exact drainTest_snd_mem _ he
      · exact h9' e he

end Sys2Proof.Machine
end

