-- ==== Sys2Proof/Laws/EdgeUnit.lean ====
section
/-! SUPPORT. The directory's search and its changes, and what the edge unit's and the steering unit's steps leave
unchanged. -/

namespace Sys2Proof.Machine

variable (s : State)

/-! ### The directory -/

@[simp] theorem setDirectory_directory (e : Edge) (d : Tab (Option DirEntry) 64) : (e.setDirectory d).directory = d := rfl
@[simp] theorem putEntry_directory (e : Edge) (i : DirPos) (d : Option DirEntry) :
    (e.putEntry i d).directory = e.directory.set i d := rfl
@[simp] theorem removeEntries_directory (e : Edge) (gone : DirEntry → Bool) :
    (e.removeEntries gone).directory = e.directory.map fun o => o.filter fun d => !gone d := rfl
theorem removeEntries_get (e : Edge) (gone : DirEntry → Bool) (i : DirPos) : (e.removeEntries gone).directory.get i =
    match e.directory.get i with
    | none => none
    | some d => if gone d then none else some d := by
  simp only [removeEntries_directory, Tab.get_map]
  cases e.directory.get i with
  | none => rfl
  | some d => cases h : gone d <;> simp [Option.filter, h]

/-- A change of the directory leaves every other part of the edge unit but the full-refusal flag. -/
theorem setDirectory_eq (e : Edge) (d : Tab (Option DirEntry) 64) :
    e.setDirectory d = { e with directory := d, fullRefusal := (e.setDirectory d).fullRefusal } := rfl

/-- R26: the directory is full when every position holds an entry. -/
theorem full_iff (e : Edge) : e.full = true ↔ ∀ i, (e.directory.get i).isSome = true := by
  simp only [Edge.full, List.all_eq_true]
  constructor
  · exact fun h i => h _ (Tab.mem_list.2 ⟨i, rfl⟩)
  · intro h x hx
    obtain ⟨i, rfl⟩ := Tab.mem_list.1 hx
    exact h i

/-- R26: a table of positions is full when every position holds an entry. -/
theorem all_isSome_iff (d : Tab (Option DirEntry) 64) : d.list.all Option.isSome = true ↔ ∀ i, (d.get i).isSome = true := by
  rw [List.all_eq_true]
  constructor
  · exact fun h i => h _ (Tab.mem_list.2 ⟨i, rfl⟩)
  · intro h x hx
    obtain ⟨i, rfl⟩ := Tab.mem_list.1 hx
    exact h i

/-- R30: the flag stays set unless the directory goes from full to having a free position. -/
theorem setDirectory_fullRefusal_iff (e : Edge) (d : Tab (Option DirEntry) 64) :
    (e.setDirectory d).fullRefusal = true ↔ e.fullRefusal = true ∧
      ¬ ((∀ i, (e.directory.get i).isSome = true) ∧ ∃ i, d.get i = none) := by
  have h : (∃ i, d.get i = none) ↔ ¬ d.list.all Option.isSome = true := by
    rw [all_isSome_iff, not_forall]
    simp only [Bool.not_eq_true, Option.isSome_eq_false_iff, Option.isNone_iff_eq_none]
  rw [h, ← full_iff]
  simp only [Edge.setDirectory]
  cases e.fullRefusal <;> cases e.full <;> cases d.list.all Option.isSome <;> simp

/-- R26: a search finds the entry with the address, at its position. -/
theorem lookup_some {e : Edge} {addr : Half} {i : DirPos} {d : DirEntry} (h : e.lookup addr = some (i, d)) :
    e.directory.get i = some d ∧ d.addr = addr := by
  obtain ⟨⟨j, o⟩, hmem, hx⟩ := List.exists_of_findSome?_eq_some h
  have := Tab.mem_entries.1 hmem
  cases o with
  | none => simp at hx
  | some d' =>
    simp only at hx
    split at hx
    · simp only [Option.some.injEq, Prod.mk.injEq] at hx
      obtain ⟨rfl, rfl⟩ := hx
      exact ⟨this, by assumption⟩
    · cases hx
theorem lookup_none {e : Edge} {addr : Half} (h : e.lookup addr = none) {i : DirPos} {d : DirEntry}
    (hd : e.directory.get i = some d) : d.addr ≠ addr := by
  intro he
  have := List.findSome?_eq_none_iff.1 h (i, some d) (Tab.mem_entries.2 hd)
  simp [he] at this

/-- R26: the lowest-numbered free position. -/
theorem freePosition_some {e : Edge} {i : DirPos} (h : e.freePosition = some i) :
    e.directory.get i = none ∧ ∀ j, j < i → (e.directory.get j).isSome = true := by
  unfold Edge.freePosition at h
  rw [Option.map_eq_some_iff] at h
  obtain ⟨⟨i', o⟩, hf, rfl⟩ := h
  have hm := List.mem_of_find?_eq_some hf
  have ho := List.find?_some hf
  have hg := Tab.mem_entries.1 hm
  refine ⟨?_, ?_⟩
  · simp only at hg ho ⊢
    rw [hg]; simpa using ho
  · intro j hj
    rw [List.find?_eq_some_iff_getElem] at hf
    obtain ⟨_, k, hk, he, hlt⟩ := hf
    have hlen : e.directory.entries.length = 64 := by simp
    have hki : k = i'.val := by
      have h1 : (e.directory.entries[k]).1 = i' := by rw [he]
      have h2 : (e.directory.entries[k]).1.val = k := by simp [Tab.entries]
      rw [h1] at h2
      exact h2.symm
    have hjk : j.val < k := by rw [hki]; exact hj
    have := hlt j.val hjk
    have h3 : e.directory.entries[j.val]'(by omega) = (j, e.directory.get j) := by
      simp [Tab.entries, Tab.get]
    rw [h3] at this
    simpa using this
theorem freePosition_none {e : Edge} (h : e.freePosition = none) (i : DirPos) : (e.directory.get i).isSome = true := by
  unfold Edge.freePosition at h
  rw [Option.map_eq_none_iff, List.find?_eq_none] at h
  have := h (i, e.directory.get i) (Tab.mem_entries.2 rfl)
  simpa [Option.isSome_iff_ne_none] using this

@[simp] theorem learn_pending (k : EdgeId) (a : Half) : (s.learn k a).pending = s.pending := by unfold State.learn; split <;> [split <;> [split; (simp only; split)]; (split <;> [skip; (simp only; split)])] <;> simp
@[simp] theorem learn_resetLow (k : EdgeId) (a : Half) : (s.learn k a).resetLow = s.resetLow := by unfold State.learn; split <;> [split <;> [split; (simp only; split)]; (split <;> [skip; (simp only; split)])] <;> simp
@[simp] theorem learn_now (k : EdgeId) (a : Half) : (s.learn k a).now = s.now := by unfold State.learn; split <;> [split <;> [split; (simp only; split)]; (split <;> [skip; (simp only; split)])] <;> simp
@[simp] theorem learn_ownAddress (k : EdgeId) (a : Half) : (s.learn k a).ownAddress = s.ownAddress := by unfold State.learn; split <;> [split <;> [split; (simp only; split)]; (split <;> [skip; (simp only; split)])] <;> simp
@[simp] theorem learn_links (k : EdgeId) (a : Half) : (s.learn k a).links = s.links := by unfold State.learn; split <;> [split <;> [split; (simp only; split)]; (split <;> [skip; (simp only; split)])] <;> simp
@[simp] theorem learn_steer (k : EdgeId) (a : Half) : (s.learn k a).steer = s.steer := by unfold State.learn; split <;> [split <;> [split; (simp only; split)]; (split <;> [skip; (simp only; split)])] <;> simp
@[simp] theorem learn_pool (k : EdgeId) (a : Half) : (s.learn k a).pool = s.pool := by unfold State.learn; split <;> [split <;> [split; (simp only; split)]; (split <;> [skip; (simp only; split)])] <;> simp
@[simp] theorem learn_queues (k : EdgeId) (a : Half) : (s.learn k a).queues = s.queues := by unfold State.learn; split <;> [split <;> [split; (simp only; split)]; (split <;> [skip; (simp only; split)])] <;> simp
@[simp] theorem learn_profiles (k : EdgeId) (a : Half) : (s.learn k a).profiles = s.profiles := by unfold State.learn; split <;> [split <;> [split; (simp only; split)]; (split <;> [skip; (simp only; split)])] <;> simp
@[simp] theorem learn_trunks (k : EdgeId) (a : Half) : (s.learn k a).trunks = s.trunks := by unfold State.learn; split <;> [split <;> [split; (simp only; split)]; (split <;> [skip; (simp only; split)])] <;> simp
@[simp] theorem learn_mgmt (k : EdgeId) (a : Half) : (s.learn k a).mgmt = s.mgmt := by unfold State.learn; split <;> [split <;> [split; (simp only; split)]; (split <;> [skip; (simp only; split)])] <;> simp
@[simp] theorem learn_link (k : EdgeId) (a : Half) (j : Port) : (s.learn k a).link j = s.link j := by simp [State.link]
@[simp] theorem learn_queue (k : EdgeId) (a : Half) (j : QueueId) : (s.learn k a).queue j = s.queue j := by simp [State.queue]
@[simp] theorem learn_profile (k : EdgeId) (a : Half) (j : ProfileId) : (s.learn k a).profile j = s.profile j := by simp [State.profile]
@[simp] theorem learn_trunk (k : EdgeId) (a : Half) (j : TrunkId) : (s.learn k a).trunk j = s.trunk j := by simp [State.trunk]
@[simp] theorem learn_account (k : EdgeId) (a : Half) (j : AcctId) : (s.learn k a).account j = s.account j := by simp [State.account]
@[simp] theorem learn_counters_queue (k : EdgeId) (a : Half) : (s.learn k a).counters.queue = s.counters.queue := by unfold State.learn; split <;> [split <;> [split; (simp only; split)]; (split <;> [skip; (simp only; split)])] <;> simp
@[simp] theorem learn_counters_trunk (k : EdgeId) (a : Half) : (s.learn k a).counters.trunk = s.counters.trunk := by unfold State.learn; split <;> [split <;> [split; (simp only; split)]; (split <;> [skip; (simp only; split)])] <;> simp
@[simp] theorem learn_counters_mgmt (k : EdgeId) (a : Half) : (s.learn k a).counters.mgmt = s.counters.mgmt := by unfold State.learn; split <;> [split <;> [split; (simp only; split)]; (split <;> [skip; (simp only; split)])] <;> simp
@[simp] theorem learn_slots (k : EdgeId) (a : Half) : (s.learn k a).events.slots = s.events.slots := by
  unfold State.learn; split <;> [split <;> [split; (simp only; split)]; (split <;> [skip; (simp only; split)])] <;> simp
@[simp] theorem learn_records (k : EdgeId) (a : Half) : (s.learn k a).events.records = s.events.records := by
  unfold State.learn; split <;> [split <;> [split; (simp only; split)]; (split <;> [skip; (simp only; split)])] <;> simp

/-! ### The return path -/

@[simp] theorem returnAdmit_pending (t : TrunkId) (f : Frame) (k : EdgeId) : (State.returnAdmit t f s k).pending = s.pending := by unfold State.returnAdmit; split <;> [skip; split] <;> simp
@[simp] theorem returnAdmit_resetLow (t : TrunkId) (f : Frame) (k : EdgeId) : (State.returnAdmit t f s k).resetLow = s.resetLow := by unfold State.returnAdmit; split <;> [skip; split] <;> simp
@[simp] theorem returnAdmit_now (t : TrunkId) (f : Frame) (k : EdgeId) : (State.returnAdmit t f s k).now = s.now := by unfold State.returnAdmit; split <;> [skip; split] <;> simp
@[simp] theorem returnAdmit_ownAddress (t : TrunkId) (f : Frame) (k : EdgeId) : (State.returnAdmit t f s k).ownAddress = s.ownAddress := by unfold State.returnAdmit; split <;> [skip; split] <;> simp
@[simp] theorem returnAdmit_steer (t : TrunkId) (f : Frame) (k : EdgeId) : (State.returnAdmit t f s k).steer = s.steer := by unfold State.returnAdmit; split <;> [skip; split] <;> simp
@[simp] theorem returnAdmit_queues (t : TrunkId) (f : Frame) (k : EdgeId) : (State.returnAdmit t f s k).queues = s.queues := by unfold State.returnAdmit; split <;> [skip; split] <;> simp
@[simp] theorem returnAdmit_profiles (t : TrunkId) (f : Frame) (k : EdgeId) : (State.returnAdmit t f s k).profiles = s.profiles := by unfold State.returnAdmit; split <;> [skip; split] <;> simp
@[simp] theorem returnAdmit_trunks (t : TrunkId) (f : Frame) (k : EdgeId) : (State.returnAdmit t f s k).trunks = s.trunks := by unfold State.returnAdmit; split <;> [skip; split] <;> simp
@[simp] theorem returnAdmit_mgmt (t : TrunkId) (f : Frame) (k : EdgeId) : (State.returnAdmit t f s k).mgmt = s.mgmt := by unfold State.returnAdmit; split <;> [skip; split] <;> simp
@[simp] theorem returnAdmit_queue (t : TrunkId) (f : Frame) (k : EdgeId) (j : QueueId) : (State.returnAdmit t f s k).queue j = s.queue j := by simp [State.queue]
@[simp] theorem returnAdmit_profile (t : TrunkId) (f : Frame) (k : EdgeId) (j : ProfileId) : (State.returnAdmit t f s k).profile j = s.profile j := by simp [State.profile]
@[simp] theorem returnAdmit_trunk (t : TrunkId) (f : Frame) (k : EdgeId) (j : TrunkId) : (State.returnAdmit t f s k).trunk j = s.trunk j := by simp [State.trunk]
@[simp] theorem returnAdmit_counters_queue (t : TrunkId) (f : Frame) (k : EdgeId) : (State.returnAdmit t f s k).counters.queue = s.counters.queue := by unfold State.returnAdmit; split <;> [skip; split] <;> simp
@[simp] theorem returnAdmit_counters_trunk (t : TrunkId) (f : Frame) (k : EdgeId) : (State.returnAdmit t f s k).counters.trunk = s.counters.trunk := by unfold State.returnAdmit; split <;> [skip; split] <;> simp
@[simp] theorem returnAdmit_counters_mgmt (t : TrunkId) (f : Frame) (k : EdgeId) : (State.returnAdmit t f s k).counters.mgmt = s.counters.mgmt := by unfold State.returnAdmit; split <;> [skip; split] <;> simp

theorem foldl_returnAdmit {α : Type} (g : State → α) (t : TrunkId) (f : Frame)
    (h : ∀ (s : State) (k : EdgeId), g (State.returnAdmit t f s k) = g s) (l : List EdgeId) (s : State) :
    g (l.foldl (State.returnAdmit t f) s) = g s := by
  induction l generalizing s with
  | nil => rfl
  | cons a rest ih => simp [ih, h]

@[simp] theorem returnPath_pending (t : TrunkId) (f : Frame) : (s.returnPath t f).pending = s.pending := by
  unfold State.returnPath
  split
  · split
    · simp
    · exact foldl_returnAdmit State.pending t f (fun _ _ => by simp) _ s
  · split <;> [split; skip] <;> simp
@[simp] theorem returnPath_resetLow (t : TrunkId) (f : Frame) : (s.returnPath t f).resetLow = s.resetLow := by
  unfold State.returnPath
  split
  · split
    · simp
    · exact foldl_returnAdmit State.resetLow t f (fun _ _ => by simp) _ s
  · split <;> [split; skip] <;> simp
@[simp] theorem returnPath_now (t : TrunkId) (f : Frame) : (s.returnPath t f).now = s.now := by
  unfold State.returnPath
  split
  · split
    · simp
    · exact foldl_returnAdmit State.now t f (fun _ _ => by simp) _ s
  · split <;> [split; skip] <;> simp
@[simp] theorem returnPath_ownAddress (t : TrunkId) (f : Frame) : (s.returnPath t f).ownAddress = s.ownAddress := by
  unfold State.returnPath
  split
  · split
    · simp
    · exact foldl_returnAdmit State.ownAddress t f (fun _ _ => by simp) _ s
  · split <;> [split; skip] <;> simp
@[simp] theorem returnPath_steer (t : TrunkId) (f : Frame) : (s.returnPath t f).steer = s.steer := by
  unfold State.returnPath
  split
  · split
    · simp
    · exact foldl_returnAdmit State.steer t f (fun _ _ => by simp) _ s
  · split <;> [split; skip] <;> simp
@[simp] theorem returnPath_queues (t : TrunkId) (f : Frame) : (s.returnPath t f).queues = s.queues := by
  unfold State.returnPath
  split
  · split
    · simp
    · exact foldl_returnAdmit State.queues t f (fun _ _ => by simp) _ s
  · split <;> [split; skip] <;> simp
@[simp] theorem returnPath_profiles (t : TrunkId) (f : Frame) : (s.returnPath t f).profiles = s.profiles := by
  unfold State.returnPath
  split
  · split
    · simp
    · exact foldl_returnAdmit State.profiles t f (fun _ _ => by simp) _ s
  · split <;> [split; skip] <;> simp
@[simp] theorem returnPath_trunks (t : TrunkId) (f : Frame) : (s.returnPath t f).trunks = s.trunks := by
  unfold State.returnPath
  split
  · split
    · simp
    · exact foldl_returnAdmit State.trunks t f (fun _ _ => by simp) _ s
  · split <;> [split; skip] <;> simp
@[simp] theorem returnPath_mgmt (t : TrunkId) (f : Frame) : (s.returnPath t f).mgmt = s.mgmt := by
  unfold State.returnPath
  split
  · split
    · simp
    · exact foldl_returnAdmit State.mgmt t f (fun _ _ => by simp) _ s
  · split <;> [split; skip] <;> simp
@[simp] theorem returnPath_counters_queue (t : TrunkId) (f : Frame) :
    (s.returnPath t f).counters.queue = s.counters.queue := by
  unfold State.returnPath
  split
  · split
    · simp
    · exact foldl_returnAdmit (fun u => u.counters.queue) t f (fun _ _ => by simp) _ s
  · split <;> [split; skip] <;> simp
@[simp] theorem returnPath_counters_trunk (t : TrunkId) (f : Frame) :
    (s.returnPath t f).counters.trunk = s.counters.trunk := by
  unfold State.returnPath
  split
  · split
    · simp
    · exact foldl_returnAdmit (fun u => u.counters.trunk) t f (fun _ _ => by simp) _ s
  · split <;> [split; skip] <;> simp
@[simp] theorem returnPath_counters_mgmt (t : TrunkId) (f : Frame) :
    (s.returnPath t f).counters.mgmt = s.counters.mgmt := by
  unfold State.returnPath
  split
  · split
    · simp
    · exact foldl_returnAdmit (fun u => u.counters.mgmt) t f (fun _ _ => by simp) _ s
  · split <;> [split; skip] <;> simp

@[simp] theorem dropReturns_pending (k : EdgeId) (l m : List Frame) : (s.dropReturns k l m).pending = s.pending := by simp [State.dropReturns]
@[simp] theorem dropReturns_resetLow (k : EdgeId) (l m : List Frame) : (s.dropReturns k l m).resetLow = s.resetLow := by simp [State.dropReturns]
@[simp] theorem dropReturns_now (k : EdgeId) (l m : List Frame) : (s.dropReturns k l m).now = s.now := by simp [State.dropReturns]
@[simp] theorem dropReturns_ownAddress (k : EdgeId) (l m : List Frame) : (s.dropReturns k l m).ownAddress = s.ownAddress := by simp [State.dropReturns]
@[simp] theorem dropReturns_links (k : EdgeId) (l m : List Frame) : (s.dropReturns k l m).links = s.links := by simp [State.dropReturns]
@[simp] theorem dropReturns_steer (k : EdgeId) (l m : List Frame) : (s.dropReturns k l m).steer = s.steer := by simp [State.dropReturns]
@[simp] theorem dropReturns_queues (k : EdgeId) (l m : List Frame) : (s.dropReturns k l m).queues = s.queues := by simp [State.dropReturns]
@[simp] theorem dropReturns_profiles (k : EdgeId) (l m : List Frame) : (s.dropReturns k l m).profiles = s.profiles := by simp [State.dropReturns]
@[simp] theorem dropReturns_trunks (k : EdgeId) (l m : List Frame) : (s.dropReturns k l m).trunks = s.trunks := by simp [State.dropReturns]
@[simp] theorem dropReturns_mgmt (k : EdgeId) (l m : List Frame) : (s.dropReturns k l m).mgmt = s.mgmt := by simp [State.dropReturns]
@[simp] theorem dropReturns_counters (k : EdgeId) (l m : List Frame) : (s.dropReturns k l m).counters = s.counters := by simp [State.dropReturns]
@[simp] theorem dropReturns_link (k : EdgeId) (l m : List Frame) (j : Port) : (s.dropReturns k l m).link j = s.link j := by simp [State.link]
@[simp] theorem dropReturns_queue (k : EdgeId) (l m : List Frame) (j : QueueId) : (s.dropReturns k l m).queue j = s.queue j := by simp [State.queue]
@[simp] theorem dropReturns_profile (k : EdgeId) (l m : List Frame) (j : ProfileId) : (s.dropReturns k l m).profile j = s.profile j := by simp [State.profile]
@[simp] theorem dropReturns_trunk (k : EdgeId) (l m : List Frame) (j : TrunkId) : (s.dropReturns k l m).trunk j = s.trunk j := by simp [State.trunk]

@[simp] theorem loseReturns_pending (k : EdgeId) (l m : List Frame) : (s.loseReturns k l m).pending = s.pending := by simp [State.loseReturns]
@[simp] theorem loseReturns_resetLow (k : EdgeId) (l m : List Frame) : (s.loseReturns k l m).resetLow = s.resetLow := by simp [State.loseReturns]
@[simp] theorem loseReturns_now (k : EdgeId) (l m : List Frame) : (s.loseReturns k l m).now = s.now := by simp [State.loseReturns]
@[simp] theorem loseReturns_ownAddress (k : EdgeId) (l m : List Frame) : (s.loseReturns k l m).ownAddress = s.ownAddress := by simp [State.loseReturns]
@[simp] theorem loseReturns_links (k : EdgeId) (l m : List Frame) : (s.loseReturns k l m).links = s.links := by simp [State.loseReturns]
@[simp] theorem loseReturns_steer (k : EdgeId) (l m : List Frame) : (s.loseReturns k l m).steer = s.steer := by simp [State.loseReturns]
@[simp] theorem loseReturns_queues (k : EdgeId) (l m : List Frame) : (s.loseReturns k l m).queues = s.queues := by simp [State.loseReturns]
@[simp] theorem loseReturns_profiles (k : EdgeId) (l m : List Frame) : (s.loseReturns k l m).profiles = s.profiles := by simp [State.loseReturns]
@[simp] theorem loseReturns_trunks (k : EdgeId) (l m : List Frame) : (s.loseReturns k l m).trunks = s.trunks := by simp [State.loseReturns]
@[simp] theorem loseReturns_mgmt (k : EdgeId) (l m : List Frame) : (s.loseReturns k l m).mgmt = s.mgmt := by simp [State.loseReturns]
@[simp] theorem loseReturns_link (k : EdgeId) (l m : List Frame) (j : Port) : (s.loseReturns k l m).link j = s.link j := by simp [State.link]
@[simp] theorem loseReturns_queue (k : EdgeId) (l m : List Frame) (j : QueueId) : (s.loseReturns k l m).queue j = s.queue j := by simp [State.queue]
@[simp] theorem loseReturns_profile (k : EdgeId) (l m : List Frame) (j : ProfileId) : (s.loseReturns k l m).profile j = s.profile j := by simp [State.profile]
@[simp] theorem loseReturns_trunk (k : EdgeId) (l m : List Frame) (j : TrunkId) : (s.loseReturns k l m).trunk j = s.trunk j := by simp [State.trunk]
@[simp] theorem loseReturns_counters_queue (k : EdgeId) (l m : List Frame) : (s.loseReturns k l m).counters.queue = s.counters.queue := by simp [State.loseReturns]
@[simp] theorem loseReturns_counters_trunk (k : EdgeId) (l m : List Frame) : (s.loseReturns k l m).counters.trunk = s.counters.trunk := by simp [State.loseReturns]
@[simp] theorem loseReturns_counters_mgmt (k : EdgeId) (l m : List Frame) : (s.loseReturns k l m).counters.mgmt = s.counters.mgmt := by simp [State.loseReturns]
@[simp] theorem dropReturns_edge (k : EdgeId) (l m : List Frame) :
    (s.dropReturns k l m).edge = { s.edge with returns := s.edge.returns.set k l } := by
  simp [State.dropReturns]
@[simp] theorem loseReturns_edge (k : EdgeId) (l m : List Frame) :
    (s.loseReturns k l m).edge = { s.edge with returns := s.edge.returns.set k l } := by
  simp [State.loseReturns]

/-! ### Classification -/

@[simp] theorem setBank_bank_self (x : Steer) (w : Bank) (t : Tab SteerEntry 256) : (x.setBank w t).bank w = t := by
  cases w <;> rfl
@[simp] theorem setBank_bank_other (x : Steer) (w : Bank) (t : Tab SteerEntry 256) :
    (x.setBank w.other t).bank w = x.bank w := by
  cases w <;> rfl
@[simp] theorem setHits_hits_self (x : Steer) (w : Bank) (t : Tab Word 256) : (x.setHits w t).hits w = t := by
  cases w <;> rfl
@[simp] theorem setShadow_shadowBank (x : Steer) (t : Tab SteerEntry 256) : (x.setShadow t).shadowBank = t := by
  obtain ⟨_, _, _, _, w, _⟩ := x; cases w <;> rfl
@[simp] theorem setShadow_activeBank (x : Steer) (t : Tab SteerEntry 256) : (x.setShadow t).activeBank = x.activeBank := by
  obtain ⟨_, _, _, _, w, _⟩ := x; cases w <;> rfl
@[simp] theorem setShadow_active (x : Steer) (t : Tab SteerEntry 256) : (x.setShadow t).active = x.active := by
  obtain ⟨_, _, _, _, w, _⟩ := x; cases w <;> rfl
/-- A new shadow bank leaves every other part of the steering unit. -/
theorem setShadow_eq (x : Steer) (t : Tab SteerEntry 256) :
    x.setShadow t = { x with bankA := (x.setShadow t).bankA, bankB := (x.setShadow t).bankB } := by
  obtain ⟨_, _, _, _, w, _⟩ := x; cases w <;> rfl
@[simp] theorem other_other (w : Bank) : w.other.other = w := by cases w <;> rfl

@[simp] theorem steerTo_pending (a : SteerAction) (q : QueueId) (k : EdgeId) (f : Frame) : (s.steerTo a q k f).pending = s.pending := by unfold State.steerTo; split <;> simp
@[simp] theorem steerTo_resetLow (a : SteerAction) (q : QueueId) (k : EdgeId) (f : Frame) : (s.steerTo a q k f).resetLow = s.resetLow := by unfold State.steerTo; split <;> simp
@[simp] theorem steerTo_now (a : SteerAction) (q : QueueId) (k : EdgeId) (f : Frame) : (s.steerTo a q k f).now = s.now := by unfold State.steerTo; split <;> simp
@[simp] theorem steerTo_ownAddress (a : SteerAction) (q : QueueId) (k : EdgeId) (f : Frame) : (s.steerTo a q k f).ownAddress = s.ownAddress := by unfold State.steerTo; split <;> simp
@[simp] theorem steerTo_edge (a : SteerAction) (q : QueueId) (k : EdgeId) (f : Frame) : (s.steerTo a q k f).edge = s.edge := by unfold State.steerTo; split <;> simp
@[simp] theorem steerTo_steer (a : SteerAction) (q : QueueId) (k : EdgeId) (f : Frame) : (s.steerTo a q k f).steer = s.steer := by unfold State.steerTo; split <;> simp
@[simp] theorem steerTo_profiles (a : SteerAction) (q : QueueId) (k : EdgeId) (f : Frame) : (s.steerTo a q k f).profiles = s.profiles := by unfold State.steerTo; split <;> simp
@[simp] theorem steerTo_mgmt (a : SteerAction) (q : QueueId) (k : EdgeId) (f : Frame) : (s.steerTo a q k f).mgmt = s.mgmt := by unfold State.steerTo; split <;> simp
@[simp] theorem steerTo_profile (a : SteerAction) (q : QueueId) (k : EdgeId) (f : Frame) (j : ProfileId) : (s.steerTo a q k f).profile j = s.profile j := by simp [State.profile]
@[simp] theorem steerTo_counters_mgmt (a : SteerAction) (q : QueueId) (k : EdgeId) (f : Frame) : (s.steerTo a q k f).counters.mgmt = s.counters.mgmt := by unfold State.steerTo; split <;> simp

@[simp] theorem classify_pending (k : EdgeId) (f : Frame) : (s.classify k f).pending = s.pending := by unfold State.classify; split <;> simp
@[simp] theorem classify_resetLow (k : EdgeId) (f : Frame) : (s.classify k f).resetLow = s.resetLow := by unfold State.classify; split <;> simp
@[simp] theorem classify_now (k : EdgeId) (f : Frame) : (s.classify k f).now = s.now := by unfold State.classify; split <;> simp
@[simp] theorem classify_ownAddress (k : EdgeId) (f : Frame) : (s.classify k f).ownAddress = s.ownAddress := by unfold State.classify; split <;> simp
@[simp] theorem classify_edge (k : EdgeId) (f : Frame) : (s.classify k f).edge = s.edge := by unfold State.classify; split <;> simp
@[simp] theorem classify_profiles (k : EdgeId) (f : Frame) : (s.classify k f).profiles = s.profiles := by unfold State.classify; split <;> simp
@[simp] theorem classify_mgmt (k : EdgeId) (f : Frame) : (s.classify k f).mgmt = s.mgmt := by unfold State.classify; split <;> simp
@[simp] theorem classify_profile (k : EdgeId) (f : Frame) (j : ProfileId) : (s.classify k f).profile j = s.profile j := by simp [State.profile]
@[simp] theorem classify_counters_mgmt (k : EdgeId) (f : Frame) : (s.classify k f).counters.mgmt = s.counters.mgmt := by unfold State.classify; split <;> simp

/-- R44: the deciding entry is the lowest-numbered entry of the active bank that matches. -/
theorem decide_some {x : Steer} {k : EdgeId} {src : Half} {tag : Byte} {i : EntryId} {e : SteerEntry}
    (h : x.decide k src tag = some (i, e)) : x.activeBank.get i = e ∧ e.hit k src tag = true ∧
      ∀ j, j < i → (x.activeBank.get j).hit k src tag = false := by
  have hf := h
  unfold Steer.decide at hf
  have hm := List.mem_of_find?_eq_some hf
  refine ⟨Tab.mem_entries.1 hm, by simpa using List.find?_some hf, ?_⟩
  intro j hj
  rw [List.find?_eq_some_iff_getElem] at hf
  obtain ⟨_, n, hn, he, hlt⟩ := hf
  have hni : n = i.val := by
    have h1 : (x.activeBank.entries[n]).1 = i := by rw [he]
    have h2 : (x.activeBank.entries[n]).1.val = n := by simp [Tab.entries]
    rw [h1] at h2
    exact h2.symm
  have hjn : j.val < n := by rw [hni]; exact hj
  have := hlt j.val hjn
  have hlen : x.activeBank.entries.length = 256 := by simp
  have h3 : x.activeBank.entries[j.val]'(by omega) = (j, x.activeBank.get j) := by
    simp [Tab.entries, Tab.get]
  rw [h3] at this
  simpa using this
theorem decide_none {x : Steer} {k : EdgeId} {src : Half} {tag : Byte} (h : x.decide k src tag = none) (i : EntryId) :
    (x.activeBank.get i).hit k src tag = false := by
  unfold Steer.decide at h
  rw [List.find?_eq_none] at h
  have := h (i, x.activeBank.get i) (Tab.mem_entries.2 rfl)
  simpa using this

end Sys2Proof.Machine
end

