-- ==== Sys2Proof/Laws/Requests.lean ====
section
/-! SUPPORT. The taking of a request and the offer of its response: what each leaves unchanged, and what the step of a
row does with a request that passes the management unit's checks, is refused by one, or is not its own. -/

namespace Sys2Proof.Machine

variable (s : State)

/-! ### Frames -/

@[simp] theorem requestArrives_pending (r : Request) : (s.requestArrives r).pending = s.pending := by unfold State.requestArrives; split <;> [skip; (simp only; split)] <;> simp
@[simp] theorem requestArrives_resetLow (r : Request) : (s.requestArrives r).resetLow = s.resetLow := by unfold State.requestArrives; split <;> [skip; (simp only; split)] <;> simp
@[simp] theorem requestArrives_now (r : Request) : (s.requestArrives r).now = s.now := by unfold State.requestArrives; split <;> [skip; (simp only; split)] <;> simp
@[simp] theorem requestArrives_ownAddress (r : Request) : (s.requestArrives r).ownAddress = s.ownAddress := by unfold State.requestArrives; split <;> [skip; (simp only; split)] <;> simp
@[simp] theorem requestArrives_links (r : Request) : (s.requestArrives r).links = s.links := by unfold State.requestArrives; split <;> [skip; (simp only; split)] <;> simp
@[simp] theorem requestArrives_edge (r : Request) : (s.requestArrives r).edge = s.edge := by unfold State.requestArrives; split <;> [skip; (simp only; split)] <;> simp
@[simp] theorem requestArrives_steer (r : Request) : (s.requestArrives r).steer = s.steer := by unfold State.requestArrives; split <;> [skip; (simp only; split)] <;> simp
@[simp] theorem requestArrives_pool (r : Request) : (s.requestArrives r).pool = s.pool := by unfold State.requestArrives; split <;> [skip; (simp only; split)] <;> simp
@[simp] theorem requestArrives_queues (r : Request) : (s.requestArrives r).queues = s.queues := by unfold State.requestArrives; split <;> [skip; (simp only; split)] <;> simp
@[simp] theorem requestArrives_profiles (r : Request) : (s.requestArrives r).profiles = s.profiles := by unfold State.requestArrives; split <;> [skip; (simp only; split)] <;> simp
@[simp] theorem requestArrives_trunks (r : Request) : (s.requestArrives r).trunks = s.trunks := by unfold State.requestArrives; split <;> [skip; (simp only; split)] <;> simp
@[simp] theorem requestArrives_link (r : Request) (j : Port) : (s.requestArrives r).link j = s.link j := by simp [State.link]
@[simp] theorem requestArrives_queue (r : Request) (j : QueueId) : (s.requestArrives r).queue j = s.queue j := by simp [State.queue]
@[simp] theorem requestArrives_profile (r : Request) (j : ProfileId) : (s.requestArrives r).profile j = s.profile j := by simp [State.profile]
@[simp] theorem requestArrives_trunk (r : Request) (j : TrunkId) : (s.requestArrives r).trunk j = s.trunk j := by simp [State.trunk]
@[simp] theorem requestArrives_account (r : Request) (j : AcctId) : (s.requestArrives r).account j = s.account j := by simp [State.account]
@[simp] theorem requestArrives_counters_port (r : Request) : (s.requestArrives r).counters.port = s.counters.port := by unfold State.requestArrives; split <;> [skip; (simp only; split)] <;> simp
@[simp] theorem requestArrives_counters_queue (r : Request) : (s.requestArrives r).counters.queue = s.counters.queue := by unfold State.requestArrives; split <;> [skip; (simp only; split)] <;> simp
@[simp] theorem requestArrives_counters_trunk (r : Request) : (s.requestArrives r).counters.trunk = s.counters.trunk := by unfold State.requestArrives; split <;> [skip; (simp only; split)] <;> simp

@[simp] theorem loseResponse_pending (c : ControlFrame) : (s.loseResponse c).pending = s.pending := by unfold State.loseResponse; split <;> simp
@[simp] theorem loseResponse_resetLow (c : ControlFrame) : (s.loseResponse c).resetLow = s.resetLow := by unfold State.loseResponse; split <;> simp
@[simp] theorem loseResponse_now (c : ControlFrame) : (s.loseResponse c).now = s.now := by unfold State.loseResponse; split <;> simp
@[simp] theorem loseResponse_ownAddress (c : ControlFrame) : (s.loseResponse c).ownAddress = s.ownAddress := by unfold State.loseResponse; split <;> simp
@[simp] theorem loseResponse_links (c : ControlFrame) : (s.loseResponse c).links = s.links := by unfold State.loseResponse; split <;> simp
@[simp] theorem loseResponse_edge (c : ControlFrame) : (s.loseResponse c).edge = s.edge := by unfold State.loseResponse; split <;> simp
@[simp] theorem loseResponse_steer (c : ControlFrame) : (s.loseResponse c).steer = s.steer := by unfold State.loseResponse; split <;> simp
@[simp] theorem loseResponse_pool (c : ControlFrame) : (s.loseResponse c).pool = s.pool := by unfold State.loseResponse; split <;> simp
@[simp] theorem loseResponse_queues (c : ControlFrame) : (s.loseResponse c).queues = s.queues := by unfold State.loseResponse; split <;> simp
@[simp] theorem loseResponse_profiles (c : ControlFrame) : (s.loseResponse c).profiles = s.profiles := by unfold State.loseResponse; split <;> simp
@[simp] theorem loseResponse_trunks (c : ControlFrame) : (s.loseResponse c).trunks = s.trunks := by unfold State.loseResponse; split <;> simp
@[simp] theorem loseResponse_events (c : ControlFrame) : (s.loseResponse c).events = s.events := by unfold State.loseResponse; split <;> simp
@[simp] theorem loseResponse_link (c : ControlFrame) (j : Port) : (s.loseResponse c).link j = s.link j := by simp [State.link]
@[simp] theorem loseResponse_queue (c : ControlFrame) (j : QueueId) : (s.loseResponse c).queue j = s.queue j := by simp [State.queue]
@[simp] theorem loseResponse_profile (c : ControlFrame) (j : ProfileId) : (s.loseResponse c).profile j = s.profile j := by simp [State.profile]
@[simp] theorem loseResponse_trunk (c : ControlFrame) (j : TrunkId) : (s.loseResponse c).trunk j = s.trunk j := by simp [State.trunk]
@[simp] theorem loseResponse_account (c : ControlFrame) (j : AcctId) : (s.loseResponse c).account j = s.account j := by simp [State.account]
@[simp] theorem loseResponse_slot (c : ControlFrame) (j : SlotId) : (s.loseResponse c).slot j = s.slot j := by simp [State.slot]
@[simp] theorem loseResponse_counters_port (c : ControlFrame) : (s.loseResponse c).counters.port = s.counters.port := by unfold State.loseResponse; split <;> simp
@[simp] theorem loseResponse_counters_queue (c : ControlFrame) : (s.loseResponse c).counters.queue = s.counters.queue := by unfold State.loseResponse; split <;> simp
@[simp] theorem loseResponse_counters_trunk (c : ControlFrame) : (s.loseResponse c).counters.trunk = s.counters.trunk := by unfold State.loseResponse; split <;> simp

@[simp] theorem respond_pending (p : Port) (c : ControlFrame) : (s.respond p c).pending = s.pending := by unfold State.respond; split <;> simp
@[simp] theorem respond_resetLow (p : Port) (c : ControlFrame) : (s.respond p c).resetLow = s.resetLow := by unfold State.respond; split <;> simp
@[simp] theorem respond_now (p : Port) (c : ControlFrame) : (s.respond p c).now = s.now := by unfold State.respond; split <;> simp
@[simp] theorem respond_ownAddress (p : Port) (c : ControlFrame) : (s.respond p c).ownAddress = s.ownAddress := by unfold State.respond; split <;> simp
@[simp] theorem respond_edge (p : Port) (c : ControlFrame) : (s.respond p c).edge = s.edge := by unfold State.respond; split <;> simp
@[simp] theorem respond_steer (p : Port) (c : ControlFrame) : (s.respond p c).steer = s.steer := by unfold State.respond; split <;> simp
@[simp] theorem respond_pool (p : Port) (c : ControlFrame) : (s.respond p c).pool = s.pool := by unfold State.respond; split <;> simp
@[simp] theorem respond_profiles (p : Port) (c : ControlFrame) : (s.respond p c).profiles = s.profiles := by unfold State.respond; split <;> simp
@[simp] theorem respond_events (p : Port) (c : ControlFrame) : (s.respond p c).events = s.events := by unfold State.respond; split <;> simp
@[simp] theorem respond_profile (p : Port) (c : ControlFrame) (j : ProfileId) : (s.respond p c).profile j = s.profile j := by simp [State.profile]
@[simp] theorem respond_account (p : Port) (c : ControlFrame) (j : AcctId) : (s.respond p c).account j = s.account j := by simp [State.account]
@[simp] theorem respond_slot (p : Port) (c : ControlFrame) (j : SlotId) : (s.respond p c).slot j = s.slot j := by simp [State.slot]
@[simp] theorem respond_counters_port (p : Port) (c : ControlFrame) : (s.respond p c).counters.port = s.counters.port := by unfold State.respond; split <;> simp
@[simp] theorem respond_counters_queue (p : Port) (c : ControlFrame) : (s.respond p c).counters.queue = s.counters.queue := by unfold State.respond; split <;> simp

@[simp] theorem reoffer_pending (p : Port) : (s.reoffer p).pending = s.pending := by unfold State.reoffer; split <;> [(split <;> [split; skip]); skip; skip; skip] <;> simp
@[simp] theorem reoffer_resetLow (p : Port) : (s.reoffer p).resetLow = s.resetLow := by unfold State.reoffer; split <;> [(split <;> [split; skip]); skip; skip; skip] <;> simp
@[simp] theorem reoffer_now (p : Port) : (s.reoffer p).now = s.now := by unfold State.reoffer; split <;> [(split <;> [split; skip]); skip; skip; skip] <;> simp
@[simp] theorem reoffer_ownAddress (p : Port) : (s.reoffer p).ownAddress = s.ownAddress := by unfold State.reoffer; split <;> [(split <;> [split; skip]); skip; skip; skip] <;> simp
@[simp] theorem reoffer_edge (p : Port) : (s.reoffer p).edge = s.edge := by unfold State.reoffer; split <;> [(split <;> [split; skip]); skip; skip; skip] <;> simp
@[simp] theorem reoffer_steer (p : Port) : (s.reoffer p).steer = s.steer := by unfold State.reoffer; split <;> [(split <;> [split; skip]); skip; skip; skip] <;> simp
@[simp] theorem reoffer_pool (p : Port) : (s.reoffer p).pool = s.pool := by unfold State.reoffer; split <;> [(split <;> [split; skip]); skip; skip; skip] <;> simp
@[simp] theorem reoffer_profiles (p : Port) : (s.reoffer p).profiles = s.profiles := by unfold State.reoffer; split <;> [(split <;> [split; skip]); skip; skip; skip] <;> simp
@[simp] theorem reoffer_events (p : Port) : (s.reoffer p).events = s.events := by unfold State.reoffer; split <;> [(split <;> [split; skip]); skip; skip; skip] <;> simp
@[simp] theorem reoffer_profile (p : Port) (j : ProfileId) : (s.reoffer p).profile j = s.profile j := by simp [State.profile]
@[simp] theorem reoffer_account (p : Port) (j : AcctId) : (s.reoffer p).account j = s.account j := by simp [State.account]
@[simp] theorem reoffer_slot (p : Port) (j : SlotId) : (s.reoffer p).slot j = s.slot j := by simp [State.slot]
@[simp] theorem reoffer_counters_port (p : Port) : (s.reoffer p).counters.port = s.counters.port := by unfold State.reoffer; split <;> [(split <;> [split; skip]); skip; skip; skip] <;> simp
@[simp] theorem reoffer_counters_queue (p : Port) : (s.reoffer p).counters.queue = s.counters.queue := by unfold State.reoffer; split <;> [(split <;> [split; skip]); skip; skip; skip] <;> simp

@[simp] theorem taken_pending (r : Request) (l : List Request) : (s.taken r l).pending = s.pending := by simp [State.taken]
@[simp] theorem taken_resetLow (r : Request) (l : List Request) : (s.taken r l).resetLow = s.resetLow := by simp [State.taken]
@[simp] theorem taken_now (r : Request) (l : List Request) : (s.taken r l).now = s.now := by simp [State.taken]
@[simp] theorem taken_ownAddress (r : Request) (l : List Request) : (s.taken r l).ownAddress = s.ownAddress := by simp [State.taken]
@[simp] theorem taken_links (r : Request) (l : List Request) : (s.taken r l).links = s.links := by simp [State.taken]
@[simp] theorem taken_edge (r : Request) (l : List Request) : (s.taken r l).edge = s.edge := by simp [State.taken]
@[simp] theorem taken_steer (r : Request) (l : List Request) : (s.taken r l).steer = s.steer := by simp [State.taken]
@[simp] theorem taken_pool (r : Request) (l : List Request) : (s.taken r l).pool = s.pool := by simp [State.taken]
@[simp] theorem taken_queues (r : Request) (l : List Request) : (s.taken r l).queues = s.queues := by simp [State.taken]
@[simp] theorem taken_profiles (r : Request) (l : List Request) : (s.taken r l).profiles = s.profiles := by simp [State.taken]
@[simp] theorem taken_trunks (r : Request) (l : List Request) : (s.taken r l).trunks = s.trunks := by simp [State.taken]
@[simp] theorem taken_events (r : Request) (l : List Request) : (s.taken r l).events = s.events := by simp [State.taken]
@[simp] theorem taken_link (r : Request) (l : List Request) (j : Port) : (s.taken r l).link j = s.link j := by simp [State.link]
@[simp] theorem taken_queue (r : Request) (l : List Request) (j : QueueId) : (s.taken r l).queue j = s.queue j := by simp [State.queue]
@[simp] theorem taken_profile (r : Request) (l : List Request) (j : ProfileId) : (s.taken r l).profile j = s.profile j := by simp [State.profile]
@[simp] theorem taken_trunk (r : Request) (l : List Request) (j : TrunkId) : (s.taken r l).trunk j = s.trunk j := by simp [State.trunk]
@[simp] theorem taken_account (r : Request) (l : List Request) (j : AcctId) : (s.taken r l).account j = s.account j := by simp [State.account]
@[simp] theorem taken_slot (r : Request) (l : List Request) (j : SlotId) : (s.taken r l).slot j = s.slot j := by simp [State.slot]
@[simp] theorem taken_counters_port (r : Request) (l : List Request) : (s.taken r l).counters.port = s.counters.port := by simp [State.taken]
@[simp] theorem taken_counters_queue (r : Request) (l : List Request) : (s.taken r l).counters.queue = s.counters.queue := by simp [State.taken]
@[simp] theorem taken_counters_trunk (r : Request) (l : List Request) : (s.taken r l).counters.trunk = s.counters.trunk := by simp [State.taken]

@[simp] theorem answered_pending (r : Request) (st : Status) (d : List Byte) : (s.answered r st d).pending = s.pending := by simp [State.answered]
@[simp] theorem answered_resetLow (r : Request) (st : Status) (d : List Byte) : (s.answered r st d).resetLow = s.resetLow := by simp [State.answered]
@[simp] theorem answered_now (r : Request) (st : Status) (d : List Byte) : (s.answered r st d).now = s.now := by simp [State.answered]
@[simp] theorem answered_ownAddress (r : Request) (st : Status) (d : List Byte) : (s.answered r st d).ownAddress = s.ownAddress := by simp [State.answered]
@[simp] theorem answered_edge (r : Request) (st : Status) (d : List Byte) : (s.answered r st d).edge = s.edge := by simp [State.answered]
@[simp] theorem answered_steer (r : Request) (st : Status) (d : List Byte) : (s.answered r st d).steer = s.steer := by simp [State.answered]
@[simp] theorem answered_pool (r : Request) (st : Status) (d : List Byte) : (s.answered r st d).pool = s.pool := by simp [State.answered]
@[simp] theorem answered_profiles (r : Request) (st : Status) (d : List Byte) : (s.answered r st d).profiles = s.profiles := by simp [State.answered]
@[simp] theorem answered_events (r : Request) (st : Status) (d : List Byte) : (s.answered r st d).events = s.events := by simp [State.answered]
@[simp] theorem answered_profile (r : Request) (st : Status) (d : List Byte) (j : ProfileId) : (s.answered r st d).profile j = s.profile j := by simp [State.profile]
@[simp] theorem answered_account (r : Request) (st : Status) (d : List Byte) (j : AcctId) : (s.answered r st d).account j = s.account j := by simp [State.account]
@[simp] theorem answered_slot (r : Request) (st : Status) (d : List Byte) (j : SlotId) : (s.answered r st d).slot j = s.slot j := by simp [State.slot]
@[simp] theorem answered_counters_port (r : Request) (st : Status) (d : List Byte) : (s.answered r st d).counters.port = s.counters.port := by simp [State.answered]
@[simp] theorem answered_counters_queue (r : Request) (st : Status) (d : List Byte) : (s.answered r st d).counters.queue = s.counters.queue := by simp [State.answered]

/-! ### The taking -/

/-- R147: a renewal keeps the owner address. -/
@[simp] theorem renew_ownerAddr (m : Mgmt) (now : Word) (r : Request) :
    (m.renew now r).owner.map Owner.addr = m.owner.map Owner.addr := by
  unfold Mgmt.renew
  split
  · rename_i o h
    split
    · simp [h]
    · rfl
  · rfl

@[simp] theorem taken_requests (r : Request) (l : List Request) : (s.taken r l).mgmt.requests = l := by
  simp [State.taken]
@[simp] theorem taken_overflow (r : Request) (l : List Request) :
    (s.taken r l).mgmt.overflow = (s.mgmt.overflow && !l.isEmpty) := by
  simp [State.taken]
@[simp] theorem taken_mode (r : Request) (l : List Request) : (s.taken r l).mgmt.mode = s.mgmt.mode := by
  simp only [State.taken, countMgmt_mgmt, modMgmt_mgmt, Mgmt.renew]
  split <;> [split; skip] <;> rfl
@[simp] theorem taken_leaseTime (r : Request) (l : List Request) : (s.taken r l).mgmt.leaseTime = s.mgmt.leaseTime := by
  simp only [State.taken, countMgmt_mgmt, modMgmt_mgmt, Mgmt.renew]
  split <;> [split; skip] <;> rfl
@[simp] theorem taken_lastCause (r : Request) (l : List Request) : (s.taken r l).mgmt.lastCause = s.mgmt.lastCause := by
  simp only [State.taken, countMgmt_mgmt, modMgmt_mgmt, Mgmt.renew]
  split <;> [split; skip] <;> rfl
@[simp] theorem taken_ownerAddr (r : Request) (l : List Request) :
    (s.taken r l).mgmt.owner.map Owner.addr = s.mgmt.owner.map Owner.addr := by
  simp [State.taken]
theorem taken_owner_none (r : Request) (l : List Request) : (s.taken r l).mgmt.owner = none ↔ s.mgmt.owner = none := by
  rw [← Option.map_eq_none_iff (f := Owner.addr), taken_ownerAddr, Option.map_eq_none_iff]

/-- The check of R139 against the owner. -/
theorem ownedBy_iff (a : Half) : s.ownedBy a = true ↔ s.mgmt.owner.map Owner.addr = some a := by
  unfold State.ownedBy
  cases s.mgmt.owner <;> simp
@[simp] theorem taken_ownedBy (r : Request) (l : List Request) (a : Half) : (s.taken r l).ownedBy a = s.ownedBy a := by
  rw [Bool.eq_iff_iff, ownedBy_iff, ownedBy_iff, taken_ownerAddr]
@[simp] theorem taken_ownerAddress (r : Request) (l : List Request) : (s.taken r l).ownerAddress = s.ownerAddress := by
  simp [State.ownerAddress]

theorem wellFormed_iff (r : Request) : r.wellFormed = true ↔ ∃ k, r.kind = some k ∧ r.payload.length = 4 + k.operandLength := by
  unfold Request.wellFormed
  cases r.kind <;> simp

/-! ### A row's step -/

variable {s} {r : Request} {rest : List Request} {row : RequestRow} {body : State → Request → State × Reply}

/-- Log 2, log 8: without a request of its own at the head, a row does nothing. -/
theorem takeRequest_other (h : s.heads r rest) (hr : r.row ≠ row) : s.takeRequest row body = s := by
  obtain ⟨_, _, hq⟩ := h
  simp [State.takeRequest, hq, hr]

/-- R139, R140: the request of its own, by the outcome of the two checks. -/
theorem takeRequest_own (h : s.heads r rest) (hr : r.row = row) : s.takeRequest row body =
    (((s.taken r rest).execute r body).1).respond r.port
      { frame := responseFrame ((s.taken r rest).execute r body).1.ownAddress r ((s.taken r rest).execute r body).2,
        restart := row == .restart && ((s.taken r rest).execute r body).2.status == .ok } := by
  obtain ⟨_, hm, hq⟩ := h
  simp [State.takeRequest, hq, hm, hr]

/-- R139, check 1. -/
theorem takeRequest_badRequest (h : s.heads r rest) (hr : r.row = row) (hw : r.wellFormed = false) :
    s.takeRequest row body = (s.taken r rest).answered r .badRequest [] := by
  rw [takeRequest_own h hr]
  have e : (Status.badRequest == Status.ok) = false := rfl
  simp [State.execute, hw, State.answered, Reply.refuse, e]

/-- R139, check 2. -/
theorem takeRequest_notOwner (h : s.heads r rest) (hr : r.row = row) (hw : r.wellFormed = true) (hm : r.mutating = true)
    (ho : s.mgmt.owner.map Owner.addr ≠ some r.src) :
    s.takeRequest row body = (s.taken r rest).answered r .notOwner (be16 s.ownerAddress) := by
  have : s.ownedBy r.src = false := by
    rw [← Bool.not_eq_true, ownedBy_iff]; exact ho
  rw [takeRequest_own h hr]
  have e : (Status.notOwner == Status.ok) = false := rfl
  simp [State.execute, hw, hm, this, State.answered, e]

/-- R140: a request that passes both checks is executed. -/
theorem execute_admitted {k : RequestKind} (h : s.admits r rest k) :
    (s.taken r rest).execute r body = body (s.taken r rest) r := by
  obtain ⟨_, hk, hl, ho⟩ := h
  have hw : r.wellFormed = true := (wellFormed_iff r).2 ⟨k, hk, hl⟩
  unfold State.execute
  cases hm : r.mutating
  · simp [hw]
  · have := (ownedBy_iff s r.src).2 (ho hm)
    simp [hw, this]

/-- R140, R142: and answered; RESTART alone marks its OK response. -/
theorem takeRequest_admitted {k : RequestKind} (h : s.admits r rest k) (hr : r.row = row) (hn : row ≠ .restart) :
    s.takeRequest row body = (body (s.taken r rest) r).1.answered r (body (s.taken r rest) r).2.status
      (body (s.taken r rest) r).2.data := by
  have hb : (row == RequestRow.restart) = false := by simpa using hn
  rw [takeRequest_own h.1 hr, execute_admitted h, hb, Bool.false_and, State.answered]

theorem live_of_heads (h : s.heads r rest) (t : State) : live s t = .next t := by
  simp [live, h.1]

end Sys2Proof.Machine
end

