-- ==== Sys2Proof/Laws/Links.lean ====
section
/-! SUPPORT. What the steps of the link layer's commands leave unchanged, and the window after an abort at link DOWN. -/

namespace Sys2Proof.Machine

variable (s : State)

/-! ### Link reports -/

@[simp] theorem unitsLinkUp_pending (p : Port) : (s.unitsLinkUp p).pending = s.pending := by unfold State.unitsLinkUp; split <;> simp
@[simp] theorem unitsLinkUp_resetLow (p : Port) : (s.unitsLinkUp p).resetLow = s.resetLow := by unfold State.unitsLinkUp; split <;> simp
@[simp] theorem unitsLinkUp_now (p : Port) : (s.unitsLinkUp p).now = s.now := by unfold State.unitsLinkUp; split <;> simp
@[simp] theorem unitsLinkUp_ownAddress (p : Port) : (s.unitsLinkUp p).ownAddress = s.ownAddress := by unfold State.unitsLinkUp; split <;> simp
@[simp] theorem unitsLinkUp_links (p : Port) : (s.unitsLinkUp p).links = s.links := by unfold State.unitsLinkUp; split <;> simp
@[simp] theorem unitsLinkUp_edge (p : Port) : (s.unitsLinkUp p).edge = s.edge := by unfold State.unitsLinkUp; split <;> simp
@[simp] theorem unitsLinkUp_steer (p : Port) : (s.unitsLinkUp p).steer = s.steer := by unfold State.unitsLinkUp; split <;> simp
@[simp] theorem unitsLinkUp_pool (p : Port) : (s.unitsLinkUp p).pool = s.pool := by unfold State.unitsLinkUp; split <;> simp
@[simp] theorem unitsLinkUp_queues (p : Port) : (s.unitsLinkUp p).queues = s.queues := by unfold State.unitsLinkUp; split <;> simp
@[simp] theorem unitsLinkUp_profiles (p : Port) : (s.unitsLinkUp p).profiles = s.profiles := by unfold State.unitsLinkUp; split <;> simp
@[simp] theorem unitsLinkUp_mgmt (p : Port) : (s.unitsLinkUp p).mgmt = s.mgmt := by unfold State.unitsLinkUp; split <;> simp
@[simp] theorem unitsLinkUp_events (p : Port) : (s.unitsLinkUp p).events = s.events := by unfold State.unitsLinkUp; split <;> simp
@[simp] theorem unitsLinkUp_counters (p : Port) : (s.unitsLinkUp p).counters = s.counters := by unfold State.unitsLinkUp; split <;> simp
@[simp] theorem unitsLinkUp_link (p : Port) (j : Port) : (s.unitsLinkUp p).link j = s.link j := by simp [State.link]
@[simp] theorem unitsLinkUp_queue (p : Port) (j : QueueId) : (s.unitsLinkUp p).queue j = s.queue j := by simp [State.queue]
@[simp] theorem unitsLinkUp_profile (p : Port) (j : ProfileId) : (s.unitsLinkUp p).profile j = s.profile j := by simp [State.profile]
@[simp] theorem unitsLinkUp_account (p : Port) (j : AcctId) : (s.unitsLinkUp p).account j = s.account j := by simp [State.account]
@[simp] theorem unitsLinkUp_slot (p : Port) (j : SlotId) : (s.unitsLinkUp p).slot j = s.slot j := by simp [State.slot]

@[simp] theorem windowAbort_pending (t : TrunkId) (w : Option OnWire) : (s.windowAbort t w).pending = s.pending := by unfold State.windowAbort; (repeat' split) <;> simp
@[simp] theorem windowAbort_resetLow (t : TrunkId) (w : Option OnWire) : (s.windowAbort t w).resetLow = s.resetLow := by unfold State.windowAbort; (repeat' split) <;> simp
@[simp] theorem windowAbort_now (t : TrunkId) (w : Option OnWire) : (s.windowAbort t w).now = s.now := by unfold State.windowAbort; (repeat' split) <;> simp
@[simp] theorem windowAbort_ownAddress (t : TrunkId) (w : Option OnWire) : (s.windowAbort t w).ownAddress = s.ownAddress := by unfold State.windowAbort; (repeat' split) <;> simp
@[simp] theorem windowAbort_links (t : TrunkId) (w : Option OnWire) : (s.windowAbort t w).links = s.links := by unfold State.windowAbort; (repeat' split) <;> simp
@[simp] theorem windowAbort_edge (t : TrunkId) (w : Option OnWire) : (s.windowAbort t w).edge = s.edge := by unfold State.windowAbort; (repeat' split) <;> simp
@[simp] theorem windowAbort_steer (t : TrunkId) (w : Option OnWire) : (s.windowAbort t w).steer = s.steer := by unfold State.windowAbort; (repeat' split) <;> simp
@[simp] theorem windowAbort_profiles (t : TrunkId) (w : Option OnWire) : (s.windowAbort t w).profiles = s.profiles := by unfold State.windowAbort; (repeat' split) <;> simp
@[simp] theorem windowAbort_mgmt (t : TrunkId) (w : Option OnWire) : (s.windowAbort t w).mgmt = s.mgmt := by unfold State.windowAbort; (repeat' split) <;> simp
@[simp] theorem windowAbort_link (t : TrunkId) (w : Option OnWire) (j : Port) : (s.windowAbort t w).link j = s.link j := by simp [State.link]
@[simp] theorem windowAbort_profile (t : TrunkId) (w : Option OnWire) (j : ProfileId) : (s.windowAbort t w).profile j = s.profile j := by simp [State.profile]
@[simp] theorem windowAbort_counters_port (t : TrunkId) (w : Option OnWire) : (s.windowAbort t w).counters.port = s.counters.port := by unfold State.windowAbort; (repeat' split) <;> simp
@[simp] theorem windowAbort_counters_trunk (t : TrunkId) (w : Option OnWire) : (s.windowAbort t w).counters.trunk = s.counters.trunk := by unfold State.windowAbort; (repeat' split) <;> simp
@[simp] theorem windowAbort_counters_mgmt (t : TrunkId) (w : Option OnWire) : (s.windowAbort t w).counters.mgmt = s.counters.mgmt := by unfold State.windowAbort; (repeat' split) <;> simp

@[simp] theorem trunkLinkDown_pending (t : TrunkId) : (s.trunkLinkDown t).pending = s.pending := by unfold State.trunkLinkDown; simp only; (repeat' split) <;> simp
@[simp] theorem trunkLinkDown_resetLow (t : TrunkId) : (s.trunkLinkDown t).resetLow = s.resetLow := by unfold State.trunkLinkDown; simp only; (repeat' split) <;> simp
@[simp] theorem trunkLinkDown_now (t : TrunkId) : (s.trunkLinkDown t).now = s.now := by unfold State.trunkLinkDown; simp only; (repeat' split) <;> simp
@[simp] theorem trunkLinkDown_ownAddress (t : TrunkId) : (s.trunkLinkDown t).ownAddress = s.ownAddress := by unfold State.trunkLinkDown; simp only; (repeat' split) <;> simp
@[simp] theorem trunkLinkDown_links (t : TrunkId) : (s.trunkLinkDown t).links = s.links := by unfold State.trunkLinkDown; simp only; (repeat' split) <;> simp
@[simp] theorem trunkLinkDown_edge (t : TrunkId) : (s.trunkLinkDown t).edge = s.edge := by unfold State.trunkLinkDown; simp only; (repeat' split) <;> simp
@[simp] theorem trunkLinkDown_steer (t : TrunkId) : (s.trunkLinkDown t).steer = s.steer := by unfold State.trunkLinkDown; simp only; (repeat' split) <;> simp
@[simp] theorem trunkLinkDown_profiles (t : TrunkId) : (s.trunkLinkDown t).profiles = s.profiles := by unfold State.trunkLinkDown; simp only; (repeat' split) <;> simp
@[simp] theorem trunkLinkDown_mgmt (t : TrunkId) : (s.trunkLinkDown t).mgmt = s.mgmt := by unfold State.trunkLinkDown; simp only; (repeat' split) <;> simp
@[simp] theorem trunkLinkDown_link (t : TrunkId) (j : Port) : (s.trunkLinkDown t).link j = s.link j := by simp [State.link]
@[simp] theorem trunkLinkDown_profile (t : TrunkId) (j : ProfileId) : (s.trunkLinkDown t).profile j = s.profile j := by simp [State.profile]
@[simp] theorem trunkLinkDown_counters_port (t : TrunkId) : (s.trunkLinkDown t).counters.port = s.counters.port := by unfold State.trunkLinkDown; simp only; (repeat' split) <;> simp
@[simp] theorem trunkLinkDown_counters_mgmt (t : TrunkId) : (s.trunkLinkDown t).counters.mgmt = s.counters.mgmt := by unfold State.trunkLinkDown; simp only; (repeat' split) <;> simp

@[simp] theorem edgeLinkDown_pending (k : EdgeId) : (s.edgeLinkDown k).pending = s.pending := by simp [State.edgeLinkDown]
@[simp] theorem edgeLinkDown_resetLow (k : EdgeId) : (s.edgeLinkDown k).resetLow = s.resetLow := by simp [State.edgeLinkDown]
@[simp] theorem edgeLinkDown_now (k : EdgeId) : (s.edgeLinkDown k).now = s.now := by simp [State.edgeLinkDown]
@[simp] theorem edgeLinkDown_ownAddress (k : EdgeId) : (s.edgeLinkDown k).ownAddress = s.ownAddress := by simp [State.edgeLinkDown]
@[simp] theorem edgeLinkDown_links (k : EdgeId) : (s.edgeLinkDown k).links = s.links := by simp [State.edgeLinkDown]
@[simp] theorem edgeLinkDown_steer (k : EdgeId) : (s.edgeLinkDown k).steer = s.steer := by simp [State.edgeLinkDown]
@[simp] theorem edgeLinkDown_queues (k : EdgeId) : (s.edgeLinkDown k).queues = s.queues := by simp [State.edgeLinkDown]
@[simp] theorem edgeLinkDown_profiles (k : EdgeId) : (s.edgeLinkDown k).profiles = s.profiles := by simp [State.edgeLinkDown]
@[simp] theorem edgeLinkDown_trunks (k : EdgeId) : (s.edgeLinkDown k).trunks = s.trunks := by simp [State.edgeLinkDown]
@[simp] theorem edgeLinkDown_mgmt (k : EdgeId) : (s.edgeLinkDown k).mgmt = s.mgmt := by simp [State.edgeLinkDown]
@[simp] theorem edgeLinkDown_link (k : EdgeId) (j : Port) : (s.edgeLinkDown k).link j = s.link j := by simp [State.link]
@[simp] theorem edgeLinkDown_queue (k : EdgeId) (j : QueueId) : (s.edgeLinkDown k).queue j = s.queue j := by simp [State.queue]
@[simp] theorem edgeLinkDown_profile (k : EdgeId) (j : ProfileId) : (s.edgeLinkDown k).profile j = s.profile j := by simp [State.profile]
@[simp] theorem edgeLinkDown_trunk (k : EdgeId) (j : TrunkId) : (s.edgeLinkDown k).trunk j = s.trunk j := by simp [State.trunk]
@[simp] theorem edgeLinkDown_counters_queue (k : EdgeId) : (s.edgeLinkDown k).counters.queue = s.counters.queue := by simp [State.edgeLinkDown]
@[simp] theorem edgeLinkDown_counters_trunk (k : EdgeId) : (s.edgeLinkDown k).counters.trunk = s.counters.trunk := by simp [State.edgeLinkDown]
@[simp] theorem edgeLinkDown_counters_mgmt (k : EdgeId) : (s.edgeLinkDown k).counters.mgmt = s.counters.mgmt := by simp [State.edgeLinkDown]

@[simp] theorem unitsLinkDown_pending (p : Port) (w : Option OnWire) : (s.unitsLinkDown p w).pending = s.pending := by unfold State.unitsLinkDown; split <;> simp
@[simp] theorem unitsLinkDown_resetLow (p : Port) (w : Option OnWire) : (s.unitsLinkDown p w).resetLow = s.resetLow := by unfold State.unitsLinkDown; split <;> simp
@[simp] theorem unitsLinkDown_now (p : Port) (w : Option OnWire) : (s.unitsLinkDown p w).now = s.now := by unfold State.unitsLinkDown; split <;> simp
@[simp] theorem unitsLinkDown_ownAddress (p : Port) (w : Option OnWire) : (s.unitsLinkDown p w).ownAddress = s.ownAddress := by unfold State.unitsLinkDown; split <;> simp
@[simp] theorem unitsLinkDown_links (p : Port) (w : Option OnWire) : (s.unitsLinkDown p w).links = s.links := by unfold State.unitsLinkDown; split <;> simp
@[simp] theorem unitsLinkDown_steer (p : Port) (w : Option OnWire) : (s.unitsLinkDown p w).steer = s.steer := by unfold State.unitsLinkDown; split <;> simp
@[simp] theorem unitsLinkDown_profiles (p : Port) (w : Option OnWire) : (s.unitsLinkDown p w).profiles = s.profiles := by unfold State.unitsLinkDown; split <;> simp
@[simp] theorem unitsLinkDown_mgmt (p : Port) (w : Option OnWire) : (s.unitsLinkDown p w).mgmt = s.mgmt := by unfold State.unitsLinkDown; split <;> simp
@[simp] theorem unitsLinkDown_link (p : Port) (w : Option OnWire) (j : Port) : (s.unitsLinkDown p w).link j = s.link j := by simp [State.link]
@[simp] theorem unitsLinkDown_profile (p : Port) (w : Option OnWire) (j : ProfileId) : (s.unitsLinkDown p w).profile j = s.profile j := by simp [State.profile]
@[simp] theorem unitsLinkDown_counters_mgmt (p : Port) (w : Option OnWire) : (s.unitsLinkDown p w).counters.mgmt = s.counters.mgmt := by unfold State.unitsLinkDown; split <;> simp

@[simp] theorem mgmtLinkDown_pending (p : Port) (l : List ControlFrame) : (s.mgmtLinkDown p l).pending = s.pending := by unfold State.mgmtLinkDown; (repeat' split) <;> simp
@[simp] theorem mgmtLinkDown_resetLow (p : Port) (l : List ControlFrame) : (s.mgmtLinkDown p l).resetLow = s.resetLow := by unfold State.mgmtLinkDown; (repeat' split) <;> simp
@[simp] theorem mgmtLinkDown_now (p : Port) (l : List ControlFrame) : (s.mgmtLinkDown p l).now = s.now := by unfold State.mgmtLinkDown; (repeat' split) <;> simp
@[simp] theorem mgmtLinkDown_ownAddress (p : Port) (l : List ControlFrame) : (s.mgmtLinkDown p l).ownAddress = s.ownAddress := by unfold State.mgmtLinkDown; (repeat' split) <;> simp
@[simp] theorem mgmtLinkDown_links (p : Port) (l : List ControlFrame) : (s.mgmtLinkDown p l).links = s.links := by unfold State.mgmtLinkDown; (repeat' split) <;> simp
@[simp] theorem mgmtLinkDown_edge (p : Port) (l : List ControlFrame) : (s.mgmtLinkDown p l).edge = s.edge := by unfold State.mgmtLinkDown; (repeat' split) <;> simp
@[simp] theorem mgmtLinkDown_steer (p : Port) (l : List ControlFrame) : (s.mgmtLinkDown p l).steer = s.steer := by unfold State.mgmtLinkDown; (repeat' split) <;> simp
@[simp] theorem mgmtLinkDown_pool (p : Port) (l : List ControlFrame) : (s.mgmtLinkDown p l).pool = s.pool := by unfold State.mgmtLinkDown; (repeat' split) <;> simp
@[simp] theorem mgmtLinkDown_queues (p : Port) (l : List ControlFrame) : (s.mgmtLinkDown p l).queues = s.queues := by unfold State.mgmtLinkDown; (repeat' split) <;> simp
@[simp] theorem mgmtLinkDown_profiles (p : Port) (l : List ControlFrame) : (s.mgmtLinkDown p l).profiles = s.profiles := by unfold State.mgmtLinkDown; (repeat' split) <;> simp
@[simp] theorem mgmtLinkDown_trunks (p : Port) (l : List ControlFrame) : (s.mgmtLinkDown p l).trunks = s.trunks := by unfold State.mgmtLinkDown; (repeat' split) <;> simp
@[simp] theorem mgmtLinkDown_events (p : Port) (l : List ControlFrame) : (s.mgmtLinkDown p l).events = s.events := by unfold State.mgmtLinkDown; (repeat' split) <;> simp
@[simp] theorem mgmtLinkDown_link (p : Port) (l : List ControlFrame) (j : Port) : (s.mgmtLinkDown p l).link j = s.link j := by simp [State.link]
@[simp] theorem mgmtLinkDown_queue (p : Port) (l : List ControlFrame) (j : QueueId) : (s.mgmtLinkDown p l).queue j = s.queue j := by simp [State.queue]
@[simp] theorem mgmtLinkDown_profile (p : Port) (l : List ControlFrame) (j : ProfileId) : (s.mgmtLinkDown p l).profile j = s.profile j := by simp [State.profile]
@[simp] theorem mgmtLinkDown_trunk (p : Port) (l : List ControlFrame) (j : TrunkId) : (s.mgmtLinkDown p l).trunk j = s.trunk j := by simp [State.trunk]
@[simp] theorem mgmtLinkDown_account (p : Port) (l : List ControlFrame) (j : AcctId) : (s.mgmtLinkDown p l).account j = s.account j := by simp [State.account]
@[simp] theorem mgmtLinkDown_slot (p : Port) (l : List ControlFrame) (j : SlotId) : (s.mgmtLinkDown p l).slot j = s.slot j := by simp [State.slot]
@[simp] theorem mgmtLinkDown_counters_port (p : Port) (l : List ControlFrame) : (s.mgmtLinkDown p l).counters.port = s.counters.port := by unfold State.mgmtLinkDown; (repeat' split) <;> simp
@[simp] theorem mgmtLinkDown_counters_queue (p : Port) (l : List ControlFrame) : (s.mgmtLinkDown p l).counters.queue = s.counters.queue := by unfold State.mgmtLinkDown; (repeat' split) <;> simp
@[simp] theorem mgmtLinkDown_counters_trunk (p : Port) (l : List ControlFrame) : (s.mgmtLinkDown p l).counters.trunk = s.counters.trunk := by unfold State.mgmtLinkDown; (repeat' split) <;> simp

/-! ### Receptions -/

@[simp] theorem dispatchMgmt_pending (p : Port) (f : Frame) : (s.dispatchMgmt p f).pending = s.pending := by unfold State.dispatchMgmt; split <;> simp
@[simp] theorem dispatchMgmt_resetLow (p : Port) (f : Frame) : (s.dispatchMgmt p f).resetLow = s.resetLow := by unfold State.dispatchMgmt; split <;> simp
@[simp] theorem dispatchMgmt_now (p : Port) (f : Frame) : (s.dispatchMgmt p f).now = s.now := by unfold State.dispatchMgmt; split <;> simp
@[simp] theorem dispatchMgmt_ownAddress (p : Port) (f : Frame) : (s.dispatchMgmt p f).ownAddress = s.ownAddress := by unfold State.dispatchMgmt; split <;> simp
@[simp] theorem dispatchMgmt_links (p : Port) (f : Frame) : (s.dispatchMgmt p f).links = s.links := by unfold State.dispatchMgmt; split <;> simp
@[simp] theorem dispatchMgmt_edge (p : Port) (f : Frame) : (s.dispatchMgmt p f).edge = s.edge := by unfold State.dispatchMgmt; split <;> simp
@[simp] theorem dispatchMgmt_steer (p : Port) (f : Frame) : (s.dispatchMgmt p f).steer = s.steer := by unfold State.dispatchMgmt; split <;> simp
@[simp] theorem dispatchMgmt_pool (p : Port) (f : Frame) : (s.dispatchMgmt p f).pool = s.pool := by unfold State.dispatchMgmt; split <;> simp
@[simp] theorem dispatchMgmt_queues (p : Port) (f : Frame) : (s.dispatchMgmt p f).queues = s.queues := by unfold State.dispatchMgmt; split <;> simp
@[simp] theorem dispatchMgmt_profiles (p : Port) (f : Frame) : (s.dispatchMgmt p f).profiles = s.profiles := by unfold State.dispatchMgmt; split <;> simp
@[simp] theorem dispatchMgmt_trunks (p : Port) (f : Frame) : (s.dispatchMgmt p f).trunks = s.trunks := by unfold State.dispatchMgmt; split <;> simp
@[simp] theorem dispatchMgmt_link (p : Port) (f : Frame) (j : Port) : (s.dispatchMgmt p f).link j = s.link j := by simp [State.link]
@[simp] theorem dispatchMgmt_queue (p : Port) (f : Frame) (j : QueueId) : (s.dispatchMgmt p f).queue j = s.queue j := by simp [State.queue]
@[simp] theorem dispatchMgmt_profile (p : Port) (f : Frame) (j : ProfileId) : (s.dispatchMgmt p f).profile j = s.profile j := by simp [State.profile]
@[simp] theorem dispatchMgmt_trunk (p : Port) (f : Frame) (j : TrunkId) : (s.dispatchMgmt p f).trunk j = s.trunk j := by simp [State.trunk]
@[simp] theorem dispatchMgmt_account (p : Port) (f : Frame) (j : AcctId) : (s.dispatchMgmt p f).account j = s.account j := by simp [State.account]

@[simp] theorem dispatchAck_pending (p : Port) (f : Frame) : (s.dispatchAck p f).pending = s.pending := by unfold State.dispatchAck; (repeat' split) <;> simp
@[simp] theorem dispatchAck_resetLow (p : Port) (f : Frame) : (s.dispatchAck p f).resetLow = s.resetLow := by unfold State.dispatchAck; (repeat' split) <;> simp
@[simp] theorem dispatchAck_now (p : Port) (f : Frame) : (s.dispatchAck p f).now = s.now := by unfold State.dispatchAck; (repeat' split) <;> simp
@[simp] theorem dispatchAck_ownAddress (p : Port) (f : Frame) : (s.dispatchAck p f).ownAddress = s.ownAddress := by unfold State.dispatchAck; (repeat' split) <;> simp
@[simp] theorem dispatchAck_edge (p : Port) (f : Frame) : (s.dispatchAck p f).edge = s.edge := by unfold State.dispatchAck; (repeat' split) <;> simp
@[simp] theorem dispatchAck_steer (p : Port) (f : Frame) : (s.dispatchAck p f).steer = s.steer := by unfold State.dispatchAck; (repeat' split) <;> simp
@[simp] theorem dispatchAck_profiles (p : Port) (f : Frame) : (s.dispatchAck p f).profiles = s.profiles := by unfold State.dispatchAck; (repeat' split) <;> simp
@[simp] theorem dispatchAck_mgmt (p : Port) (f : Frame) : (s.dispatchAck p f).mgmt = s.mgmt := by unfold State.dispatchAck; (repeat' split) <;> simp
@[simp] theorem dispatchAck_profile (p : Port) (f : Frame) (j : ProfileId) : (s.dispatchAck p f).profile j = s.profile j := by simp [State.profile]

@[simp] theorem dispatchData_pending (p : Port) (f : Frame) : (s.dispatchData p f).pending = s.pending := by unfold State.dispatchData; (repeat' split) <;> simp
@[simp] theorem dispatchData_resetLow (p : Port) (f : Frame) : (s.dispatchData p f).resetLow = s.resetLow := by unfold State.dispatchData; (repeat' split) <;> simp
@[simp] theorem dispatchData_now (p : Port) (f : Frame) : (s.dispatchData p f).now = s.now := by unfold State.dispatchData; (repeat' split) <;> simp
@[simp] theorem dispatchData_ownAddress (p : Port) (f : Frame) : (s.dispatchData p f).ownAddress = s.ownAddress := by unfold State.dispatchData; (repeat' split) <;> simp
@[simp] theorem dispatchData_profiles (p : Port) (f : Frame) : (s.dispatchData p f).profiles = s.profiles := by unfold State.dispatchData; (repeat' split) <;> simp
@[simp] theorem dispatchData_mgmt (p : Port) (f : Frame) : (s.dispatchData p f).mgmt = s.mgmt := by unfold State.dispatchData; (repeat' split) <;> simp
@[simp] theorem dispatchData_profile (p : Port) (f : Frame) (j : ProfileId) : (s.dispatchData p f).profile j = s.profile j := by simp [State.profile]

@[simp] theorem dispatch_pending (p : Port) (f : Frame) : (s.dispatch p f).pending = s.pending := by unfold State.dispatch; (repeat' split) <;> simp
@[simp] theorem dispatch_resetLow (p : Port) (f : Frame) : (s.dispatch p f).resetLow = s.resetLow := by unfold State.dispatch; (repeat' split) <;> simp
@[simp] theorem dispatch_now (p : Port) (f : Frame) : (s.dispatch p f).now = s.now := by unfold State.dispatch; (repeat' split) <;> simp
@[simp] theorem dispatch_ownAddress (p : Port) (f : Frame) : (s.dispatch p f).ownAddress = s.ownAddress := by unfold State.dispatch; (repeat' split) <;> simp
@[simp] theorem dispatch_profiles (p : Port) (f : Frame) : (s.dispatch p f).profiles = s.profiles := by unfold State.dispatch; (repeat' split) <;> simp
@[simp] theorem dispatch_profile (p : Port) (f : Frame) (j : ProfileId) : (s.dispatch p f).profile j = s.profile j := by simp [State.profile]

@[simp] theorem arrive_pending (p : Port) (l : List Byte) : (s.arrive p l).pending = s.pending := by unfold State.arrive; split <;> simp
@[simp] theorem arrive_resetLow (p : Port) (l : List Byte) : (s.arrive p l).resetLow = s.resetLow := by unfold State.arrive; split <;> simp
@[simp] theorem arrive_now (p : Port) (l : List Byte) : (s.arrive p l).now = s.now := by unfold State.arrive; split <;> simp
@[simp] theorem arrive_ownAddress (p : Port) (l : List Byte) : (s.arrive p l).ownAddress = s.ownAddress := by unfold State.arrive; split <;> simp
@[simp] theorem arrive_profiles (p : Port) (l : List Byte) : (s.arrive p l).profiles = s.profiles := by unfold State.arrive; split <;> simp
@[simp] theorem arrive_profile (p : Port) (l : List Byte) (j : ProfileId) : (s.arrive p l).profile j = s.profile j := by simp [State.profile]

/-! ### Transmission ends -/

@[simp] theorem controlEnds_pending (p : Port) : (s.controlEnds p).pending = s.pending := by unfold State.controlEnds; simp only; (repeat' split) <;> simp
@[simp] theorem controlEnds_resetLow (p : Port) : (s.controlEnds p).resetLow = s.resetLow := by unfold State.controlEnds; simp only; (repeat' split) <;> simp
@[simp] theorem controlEnds_now (p : Port) : (s.controlEnds p).now = s.now := by unfold State.controlEnds; simp only; (repeat' split) <;> simp
@[simp] theorem controlEnds_ownAddress (p : Port) : (s.controlEnds p).ownAddress = s.ownAddress := by unfold State.controlEnds; simp only; (repeat' split) <;> simp
@[simp] theorem controlEnds_edge (p : Port) : (s.controlEnds p).edge = s.edge := by unfold State.controlEnds; simp only; (repeat' split) <;> simp
@[simp] theorem controlEnds_steer (p : Port) : (s.controlEnds p).steer = s.steer := by unfold State.controlEnds; simp only; (repeat' split) <;> simp
@[simp] theorem controlEnds_pool (p : Port) : (s.controlEnds p).pool = s.pool := by unfold State.controlEnds; simp only; (repeat' split) <;> simp
@[simp] theorem controlEnds_queues (p : Port) : (s.controlEnds p).queues = s.queues := by unfold State.controlEnds; simp only; (repeat' split) <;> simp
@[simp] theorem controlEnds_profiles (p : Port) : (s.controlEnds p).profiles = s.profiles := by unfold State.controlEnds; simp only; (repeat' split) <;> simp
@[simp] theorem controlEnds_trunks (p : Port) : (s.controlEnds p).trunks = s.trunks := by unfold State.controlEnds; simp only; (repeat' split) <;> simp
@[simp] theorem controlEnds_events (p : Port) : (s.controlEnds p).events = s.events := by unfold State.controlEnds; simp only; (repeat' split) <;> simp
@[simp] theorem controlEnds_queue (p : Port) (j : QueueId) : (s.controlEnds p).queue j = s.queue j := by simp [State.queue]
@[simp] theorem controlEnds_profile (p : Port) (j : ProfileId) : (s.controlEnds p).profile j = s.profile j := by simp [State.profile]
@[simp] theorem controlEnds_trunk (p : Port) (j : TrunkId) : (s.controlEnds p).trunk j = s.trunk j := by simp [State.trunk]
@[simp] theorem controlEnds_account (p : Port) (j : AcctId) : (s.controlEnds p).account j = s.account j := by simp [State.account]
@[simp] theorem controlEnds_slot (p : Port) (j : SlotId) : (s.controlEnds p).slot j = s.slot j := by simp [State.slot]
@[simp] theorem controlEnds_counters_port (p : Port) : (s.controlEnds p).counters.port = s.counters.port := by unfold State.controlEnds; simp only; (repeat' split) <;> simp
@[simp] theorem controlEnds_counters_queue (p : Port) : (s.controlEnds p).counters.queue = s.counters.queue := by unfold State.controlEnds; simp only; (repeat' split) <;> simp

@[simp] theorem offerBoth_pending (p : Port) (b : Bool) : (s.offerBoth p b).pending = s.pending := by unfold State.offerBoth; split <;> simp
@[simp] theorem offerBoth_resetLow (p : Port) (b : Bool) : (s.offerBoth p b).resetLow = s.resetLow := by unfold State.offerBoth; split <;> simp
@[simp] theorem offerBoth_now (p : Port) (b : Bool) : (s.offerBoth p b).now = s.now := by unfold State.offerBoth; split <;> simp
@[simp] theorem offerBoth_ownAddress (p : Port) (b : Bool) : (s.offerBoth p b).ownAddress = s.ownAddress := by unfold State.offerBoth; split <;> simp
@[simp] theorem offerBoth_edge (p : Port) (b : Bool) : (s.offerBoth p b).edge = s.edge := by unfold State.offerBoth; split <;> simp
@[simp] theorem offerBoth_steer (p : Port) (b : Bool) : (s.offerBoth p b).steer = s.steer := by unfold State.offerBoth; split <;> simp
@[simp] theorem offerBoth_pool (p : Port) (b : Bool) : (s.offerBoth p b).pool = s.pool := by unfold State.offerBoth; split <;> simp
@[simp] theorem offerBoth_profiles (p : Port) (b : Bool) : (s.offerBoth p b).profiles = s.profiles := by unfold State.offerBoth; split <;> simp
@[simp] theorem offerBoth_profile (p : Port) (b : Bool) (j : ProfileId) : (s.offerBoth p b).profile j = s.profile j := by simp [State.profile]
@[simp] theorem offerBoth_account (p : Port) (b : Bool) (j : AcctId) : (s.offerBoth p b).account j = s.account j := by simp [State.account]
@[simp] theorem offerBoth_counters_port (p : Port) (b : Bool) : (s.offerBoth p b).counters.port = s.counters.port := by unfold State.offerBoth; split <;> simp
@[simp] theorem offerBoth_counters_queue (p : Port) (b : Bool) : (s.offerBoth p b).counters.queue = s.counters.queue := by unfold State.offerBoth; split <;> simp

@[simp] theorem returnEnds_pending (k : EdgeId) : (s.returnEnds k).pending = s.pending := by simp [State.returnEnds]
@[simp] theorem returnEnds_resetLow (k : EdgeId) : (s.returnEnds k).resetLow = s.resetLow := by simp [State.returnEnds]
@[simp] theorem returnEnds_now (k : EdgeId) : (s.returnEnds k).now = s.now := by simp [State.returnEnds]
@[simp] theorem returnEnds_ownAddress (k : EdgeId) : (s.returnEnds k).ownAddress = s.ownAddress := by simp [State.returnEnds]
@[simp] theorem returnEnds_links (k : EdgeId) : (s.returnEnds k).links = s.links := by simp [State.returnEnds]
@[simp] theorem returnEnds_steer (k : EdgeId) : (s.returnEnds k).steer = s.steer := by simp [State.returnEnds]
@[simp] theorem returnEnds_queues (k : EdgeId) : (s.returnEnds k).queues = s.queues := by simp [State.returnEnds]
@[simp] theorem returnEnds_profiles (k : EdgeId) : (s.returnEnds k).profiles = s.profiles := by simp [State.returnEnds]
@[simp] theorem returnEnds_trunks (k : EdgeId) : (s.returnEnds k).trunks = s.trunks := by simp [State.returnEnds]
@[simp] theorem returnEnds_mgmt (k : EdgeId) : (s.returnEnds k).mgmt = s.mgmt := by simp [State.returnEnds]
@[simp] theorem returnEnds_counters (k : EdgeId) : (s.returnEnds k).counters = s.counters := by simp [State.returnEnds]
@[simp] theorem returnEnds_link (k : EdgeId) (j : Port) : (s.returnEnds k).link j = s.link j := by simp [State.link]
@[simp] theorem returnEnds_queue (k : EdgeId) (j : QueueId) : (s.returnEnds k).queue j = s.queue j := by simp [State.queue]
@[simp] theorem returnEnds_profile (k : EdgeId) (j : ProfileId) : (s.returnEnds k).profile j = s.profile j := by simp [State.profile]
@[simp] theorem returnEnds_trunk (k : EdgeId) (j : TrunkId) : (s.returnEnds k).trunk j = s.trunk j := by simp [State.trunk]

@[simp] theorem bundleEnds_pending (t : TrunkId) (q : Byte) : (s.bundleEnds t q).pending = s.pending := by unfold State.bundleEnds; (repeat' split) <;> simp
@[simp] theorem bundleEnds_resetLow (t : TrunkId) (q : Byte) : (s.bundleEnds t q).resetLow = s.resetLow := by unfold State.bundleEnds; (repeat' split) <;> simp
@[simp] theorem bundleEnds_now (t : TrunkId) (q : Byte) : (s.bundleEnds t q).now = s.now := by unfold State.bundleEnds; (repeat' split) <;> simp
@[simp] theorem bundleEnds_ownAddress (t : TrunkId) (q : Byte) : (s.bundleEnds t q).ownAddress = s.ownAddress := by unfold State.bundleEnds; (repeat' split) <;> simp
@[simp] theorem bundleEnds_links (t : TrunkId) (q : Byte) : (s.bundleEnds t q).links = s.links := by unfold State.bundleEnds; (repeat' split) <;> simp
@[simp] theorem bundleEnds_edge (t : TrunkId) (q : Byte) : (s.bundleEnds t q).edge = s.edge := by unfold State.bundleEnds; (repeat' split) <;> simp
@[simp] theorem bundleEnds_steer (t : TrunkId) (q : Byte) : (s.bundleEnds t q).steer = s.steer := by unfold State.bundleEnds; (repeat' split) <;> simp
@[simp] theorem bundleEnds_profiles (t : TrunkId) (q : Byte) : (s.bundleEnds t q).profiles = s.profiles := by unfold State.bundleEnds; (repeat' split) <;> simp
@[simp] theorem bundleEnds_mgmt (t : TrunkId) (q : Byte) : (s.bundleEnds t q).mgmt = s.mgmt := by unfold State.bundleEnds; (repeat' split) <;> simp
@[simp] theorem bundleEnds_link (t : TrunkId) (q : Byte) (j : Port) : (s.bundleEnds t q).link j = s.link j := by simp [State.link]
@[simp] theorem bundleEnds_profile (t : TrunkId) (q : Byte) (j : ProfileId) : (s.bundleEnds t q).profile j = s.profile j := by simp [State.profile]
@[simp] theorem bundleEnds_counters_port (t : TrunkId) (q : Byte) : (s.bundleEnds t q).counters.port = s.counters.port := by unfold State.bundleEnds; (repeat' split) <;> simp
@[simp] theorem bundleEnds_counters_trunk (t : TrunkId) (q : Byte) : (s.bundleEnds t q).counters.trunk = s.counters.trunk := by unfold State.bundleEnds; (repeat' split) <;> simp
@[simp] theorem bundleEnds_counters_mgmt (t : TrunkId) (q : Byte) : (s.bundleEnds t q).counters.mgmt = s.counters.mgmt := by unfold State.bundleEnds; (repeat' split) <;> simp

@[simp] theorem ownerEnds_pending (p : Port) (o : WireOwner) (b : Bool) : (s.ownerEnds p o b).pending = s.pending := by unfold State.ownerEnds; (repeat' split) <;> simp
@[simp] theorem ownerEnds_resetLow (p : Port) (o : WireOwner) (b : Bool) : (s.ownerEnds p o b).resetLow = s.resetLow := by unfold State.ownerEnds; (repeat' split) <;> simp
@[simp] theorem ownerEnds_now (p : Port) (o : WireOwner) (b : Bool) : (s.ownerEnds p o b).now = s.now := by unfold State.ownerEnds; (repeat' split) <;> simp
@[simp] theorem ownerEnds_ownAddress (p : Port) (o : WireOwner) (b : Bool) : (s.ownerEnds p o b).ownAddress = s.ownAddress := by unfold State.ownerEnds; (repeat' split) <;> simp
@[simp] theorem ownerEnds_steer (p : Port) (o : WireOwner) (b : Bool) : (s.ownerEnds p o b).steer = s.steer := by unfold State.ownerEnds; (repeat' split) <;> simp
@[simp] theorem ownerEnds_profiles (p : Port) (o : WireOwner) (b : Bool) : (s.ownerEnds p o b).profiles = s.profiles := by unfold State.ownerEnds; (repeat' split) <;> simp
@[simp] theorem ownerEnds_profile (p : Port) (o : WireOwner) (b : Bool) (j : ProfileId) : (s.ownerEnds p o b).profile j = s.profile j := by simp [State.profile]
@[simp] theorem ownerEnds_counters_port (p : Port) (o : WireOwner) (b : Bool) : (s.ownerEnds p o b).counters.port = s.counters.port := by unfold State.ownerEnds; (repeat' split) <;> simp

@[simp] theorem transmissionEnds_pending (p : Port) (w : OnWire) (b : Bool) : (s.transmissionEnds p w b).pending = s.pending := by simp [State.transmissionEnds]
@[simp] theorem transmissionEnds_resetLow (p : Port) (w : OnWire) (b : Bool) : (s.transmissionEnds p w b).resetLow = s.resetLow := by simp [State.transmissionEnds]
@[simp] theorem transmissionEnds_now (p : Port) (w : OnWire) (b : Bool) : (s.transmissionEnds p w b).now = s.now := by simp [State.transmissionEnds]
@[simp] theorem transmissionEnds_ownAddress (p : Port) (w : OnWire) (b : Bool) : (s.transmissionEnds p w b).ownAddress = s.ownAddress := by simp [State.transmissionEnds]
@[simp] theorem transmissionEnds_steer (p : Port) (w : OnWire) (b : Bool) : (s.transmissionEnds p w b).steer = s.steer := by simp [State.transmissionEnds]
@[simp] theorem transmissionEnds_profiles (p : Port) (w : OnWire) (b : Bool) : (s.transmissionEnds p w b).profiles = s.profiles := by simp [State.transmissionEnds]
@[simp] theorem transmissionEnds_profile (p : Port) (w : OnWire) (b : Bool) (j : ProfileId) : (s.transmissionEnds p w b).profile j = s.profile j := by simp [State.profile]

end Sys2Proof.Machine
end

