-- ==== Sys2Proof/Laws/Step.lean ====
section
/-! SUPPORT. A step on an empty and on a filled queue, and what holding RESET_N low does to every command. -/

namespace Sys2Proof.Machine

theorem step_nil {s : State} (h : s.pending = []) : step s = .next s := by
  simp [step, h]

theorem step_cons {s : State} {c : Instr} {rest : List Instr} (h : s.pending = c :: rest) :
    step s = exec c { s with pending := rest } := by
  simp [step, h]

/-- A property of states that no command loses, and that does not speak of the waiting commands, is kept by every step. -/
theorem kept_by_step {P : State → Prop} (hp : ∀ s l, P s → P { s with pending := l })
    (h : ∀ c s t, P s → exec c s = .next t → P t) {s t : State} (hs : P s) (ht : step s = .next t) : P t := by
  cases e : s.pending with
  | nil => rw [step_nil e] at ht; cases ht; exact hs
  | cons c rest => rw [step_cons e] at ht; exact h c _ t (hp s rest hs) ht

@[simp] theorem live_of_low {s : State} (h : s.resetLow = true) (t : State) : live s t = .next s := by
  simp [live, h]
@[simp] theorem live_of_high {s : State} (h : s.resetLow = false) (t : State) : live s t = .next t := by
  simp [live, h]

/-- The step of every request row is its taking. -/
theorem exec_row (row : RequestRow) (s : State) : ∃ body, exec row.instr s = live s (s.takeRequest row body) := by
  cases row <;> exact ⟨_, rfl⟩

end Sys2Proof.Machine
end

