-- ==== Sys2Proof/Laws/Answers.lean ====
section
/-! SUPPORT. Which row takes a request of each kind, what a row answers to a request that passes the checks, and what the
larger operations do: the choice in cyclic order, the ports that come to owe a kind, the expiry of a hold. -/

namespace Sys2Proof.Machine

/-- A number below the size of a table is an index of it. -/
theorem index_of_eq {n i : Nat} {k : Fin n} (h : i = k.val) : index? n i = some k := by
  subst h; simp [index?]
theorem index_none {n i : Nat} (h : n ≤ i) : index? n i = none := by
  simp [index?]; omega

/-- Log 8, log 29: the row that takes a request of a known kind. -/
theorem row_of_kind {r : Request} {k : RequestKind} : r.kind = some k → r.row =
    match k with
    | .identify => .identify
    | .claim => .claim
    | .release => .release
    | .readItem => .readItem
    | .writeItem =>
      if r.wellFormed then (match r.item with | some i => i.writeRow r.value | none => .writeItem) else .writeItem
    | .tableWrite => .tableWrite
    | .tableClear => .tableClear
    | .tableRead => .tableRead
    | .readHits => .readHits
    | .commit => .commit
    | .queueStart => .queueStart
    | .queueHalt => .queueHalt
    | .queueFlush => .queueFlush
    | .queuePurge => .queuePurge
    | .queueStatus => .queueStatus
    | .dirPin => .dirPin
    | .dirUnpin => .dirUnpin
    | .dirFlush => .dirFlush
    | .dirRead => .dirRead
    | .subscribe => .subscribe
    | .unsubscribe => .unsubscribe
    | .eventAck => .eventAck
    | .readEvents => if r.flag0 then .readEventsTake else .readEvents
    | .readCounters => if r.flag0 then .readCountersClear else .readCounters
    | .restart => .restart := by
  intro h
  cases k <;> (try simp only [Request.row, h]) <;> rfl

/-- R140 to R142: what a row other than RESTART does with a request of its own that passes both checks. -/
theorem row_answers {s : State} {r : Request} {rest : List Request} {k : RequestKind} {row : RequestRow}
    {body : State → Request → State × Reply} (h : s.admits r rest k) (hr : r.row = row) (hn : row ≠ .restart) :
    live s (s.takeRequest row body) = .next ((body (s.taken r rest) r).1.answered r
      (body (s.taken r rest) r).2.status (body (s.taken r rest) r).2.data) := by
  rw [live_of_heads h.1, takeRequest_admitted h hr hn]

/-- R108: the first queue found in cyclic order meets the test, and none that meets it stands before. -/
theorem cyclicAfter_first {ptr r : QueueId} {f : QueueId → Bool} (h : (cyclicAfter ptr).find? f = some r) :
    f r = true ∧ ∀ q, f q = true → (r - ptr - 1).val ≤ (q - ptr - 1).val := by
  refine ⟨List.find?_some h, fun q hq => ?_⟩
  rw [List.find?_eq_some_iff_getElem] at h
  obtain ⟨_, i, hi, he, hlt⟩ := h
  have hlen : (cyclicAfter ptr).length = 16 := by simp [cyclicAfter]
  have g : ∀ n (hn : n < 16), (cyclicAfter ptr)[n]'(by omega) = ptr + 1 + ⟨n, hn⟩ := by
    intro n hn; simp [cyclicAfter]
  have hi' : i < 16 := by omega
  rw [g i hi'] at he
  have e1 : r - ptr - 1 = ⟨i, hi'⟩ := by rw [← he]; abel
  by_contra hcon
  have hj : (q - ptr - 1).val < i := by rw [e1] at hcon; simpa using hcon
  have := hlt _ hj
  rw [g _ (by omega)] at this
  have e2 : ptr + 1 + ⟨(q - ptr - 1).val, by omega⟩ = q := by
    have : (⟨(q - ptr - 1).val, by omega⟩ : Fin 16) = q - ptr - 1 := rfl
    rw [this]; abel
  rw [e2, hq] at this
  cases this

/-- R108: every queue stands in the cyclic order. -/
theorem cyclicAfter_none {ptr : QueueId} {f : QueueId → Bool} (h : (cyclicAfter ptr).find? f = none) (q : QueueId) :
    f q = false := by
  rw [List.find?_eq_none] at h
  have : q ∈ cyclicAfter ptr := by
    simp only [cyclicAfter, List.mem_map, List.mem_finRange, true_and]
    exact ⟨q - ptr - 1, by abel⟩
  simpa using h q this

/-- R169: the ports of the slots that come to owe one of the kinds (log 19). -/
theorem mem_owingPorts {s : State} {ks : List EventKind} {p : Port} : p ∈ s.owingPorts ks ↔
    ∃ i, (s.slot i).port = p ∧ (s.slot i).inUse = true ∧
      ∃ k ∈ ks, (s.slot i).kindSet.getLsbD k.code = true ∧ (s.slot i).pending.getLsbD k.code = false := by
  simp only [State.owingPorts, List.mem_filter, List.mem_finRange, true_and, List.any_eq_true, Tab.mem_list,
    Slot.comesToOwe, Slot.subscribes, and_bit, and_bit_eq_zero, Bool.and_eq_true, beq_iff_eq, Bool.not_eq_true', State.slot]
  constructor
  · rintro ⟨x, ⟨i, rfl⟩, h1, k, hk, ⟨h2, h3⟩, h4⟩
    exact ⟨i, h1, h2, k, hk, h3, h4⟩
  · rintro ⟨i, h1, h2, k, hk, h3, h4⟩
    exact ⟨_, ⟨i, rfl⟩, h1, k, hk, ⟨h2, h3⟩, h4⟩

/-- R102: everything the expiry of a hold does to the trunks, the queues, the pool and the waiting raises. -/
theorem holdExpires_spec (s : State) (j : TrunkId) :
    (s.holdExpires j).trunk j = { s.trunk j with
      bundles := [], hold := none, stopRequested := false,
      state := if (s.trunk j).stopRequested then .disabled else .waiting } ∧
    (∀ i, i ≠ j → (s.holdExpires j).trunk i = s.trunk i) ∧
    (∀ q, ((s.holdExpires j).queue q).outstanding = (s.queue q).outstanding - ((s.trunk j).bundlesOf q).length) ∧
    (∀ q, (s.holdExpires j).queueCounter q .framesAbandoned = satAdd (s.queueCounter q .framesAbandoned)
      (((s.trunk j).bundlesOf q).map fun b => b.batch.members.length).sum) ∧
    (s.holdExpires j).trunkCounter j .bundlesAbandoned =
      satAdd (s.trunkCounter j .bundlesAbandoned) (s.trunk j).bundles.length ∧
    (s.holdExpires j).pool.freeDescriptors = s.pool.freeDescriptors + (s.trunk j).bundles.length ∧
    (s.holdExpires j).pool.freeCells = s.pool.freeCells + ((s.trunk j).bundles.map fun b => b.batch.cells).sum ∧
    (∃ pool offs, (∀ a ∈ pool, a.block = Block.cellPool) ∧ (∀ e ∈ offs, e.kind = .queueOff ∧ e.detail = 1) ∧
      (s.holdExpires j).events = { s.events with raised := s.events.raised ++ pool ++ [{ block := .trunkUnit j, events :=
        offs ++ [raiseOf .holdExpired j.port.val (s.trunk j).bundles.length] }] }) := by
  obtain ⟨h1, h2, h3, h4, h5, h6, h7, ⟨p, h8, h8'⟩, o, h9, h9'⟩ :=
    foldl_abandon_spec j (s.trunk j).bundles (s, []) rfl (s.abandonAll j) rfl
  refine ⟨?_, ?_, ?_, ?_, ?_, ?_, ?_, p, o, h8, h9', ?_⟩ <;> simp only [State.holdExpires]
  · rw [modTrunk_trunk_self, raise_trunk, h1]
  · intro i hi; rw [modTrunk_trunk_ne _ _ hi, raise_trunk, h2 i hi]
  · intro q; simp [h3 q, Trunk.bundlesOf]
  · intro q; exact (queueCounter_congr (by simp) _ _).trans (h4 q)
  · exact (trunkCounter_congr (by simp) _ _).trans h5
  · simp [h6]
  · simp [h7]
  · have : (s.abandonAll j).2 = o := by rw [h9]; simp
    rw [modTrunk_events, raise_eq, this, h8']
    simp

end Sys2Proof.Machine
end

