-- ==== Sys2Proof/Laws/Restart.lean ====
section
/-! SUPPORT. What the parts of a restart leave unchanged, what one release of several batches gives back, and which blocks
have taken the restart. -/

namespace Sys2Proof.Machine

variable (s : State)

/-! ### One release of several batches -/

/-- R62: what a release of these batches gives back to the pool. -/
theorem foldl_give (gone : List Batch) (p : Pool) (r : Pool)
    (hr : r = gone.foldl (fun acc b => acc.give b.queue.acct b.cells 1) p) :
    r.freeCells = p.freeCells + (gone.map Batch.cells).sum ∧ r.freeDescriptors = p.freeDescriptors + gone.length ∧
      r.lowWater = p.lowWater ∧ r.low = p.low ∧
      ∀ a, r.accounts.get a = { p.accounts.get a with
        inUse := (p.accounts.get a).inUse - ((gone.filter fun b => b.queue.acct == a).map Batch.cells).sum } := by
  subst hr
  induction gone generalizing p with
  | nil => simp
  | cons b rest ih =>
    obtain ⟨h1, h2, h3, h4, h5⟩ := ih (p.give b.queue.acct b.cells 1)
    refine ⟨?_, ?_, h3, h4, ?_⟩
    · rw [List.foldl_cons, h1]; simp [Pool.give]; omega
    · rw [List.foldl_cons, h2]; simp [Pool.give]; omega
    · intro a
      rw [List.foldl_cons, h5 a]
      by_cases h : b.queue.acct = a
      · subst h; simp [Pool.give, Nat.sub_sub]
      · have h' : a ≠ b.queue.acct := fun e => h e.symm
        simp [Pool.give, h, h']

@[simp] theorem releaseBatches_pending (l : List Batch) : (s.releaseBatches l).pending = s.pending := by unfold State.releaseBatches; split <;> simp
@[simp] theorem releaseBatches_resetLow (l : List Batch) : (s.releaseBatches l).resetLow = s.resetLow := by unfold State.releaseBatches; split <;> simp
@[simp] theorem releaseBatches_now (l : List Batch) : (s.releaseBatches l).now = s.now := by unfold State.releaseBatches; split <;> simp
@[simp] theorem releaseBatches_ownAddress (l : List Batch) : (s.releaseBatches l).ownAddress = s.ownAddress := by unfold State.releaseBatches; split <;> simp
@[simp] theorem releaseBatches_links (l : List Batch) : (s.releaseBatches l).links = s.links := by unfold State.releaseBatches; split <;> simp
@[simp] theorem releaseBatches_edge (l : List Batch) : (s.releaseBatches l).edge = s.edge := by unfold State.releaseBatches; split <;> simp
@[simp] theorem releaseBatches_steer (l : List Batch) : (s.releaseBatches l).steer = s.steer := by unfold State.releaseBatches; split <;> simp
@[simp] theorem releaseBatches_queues (l : List Batch) : (s.releaseBatches l).queues = s.queues := by unfold State.releaseBatches; split <;> simp
@[simp] theorem releaseBatches_profiles (l : List Batch) : (s.releaseBatches l).profiles = s.profiles := by unfold State.releaseBatches; split <;> simp
@[simp] theorem releaseBatches_trunks (l : List Batch) : (s.releaseBatches l).trunks = s.trunks := by unfold State.releaseBatches; split <;> simp
@[simp] theorem releaseBatches_mgmt (l : List Batch) : (s.releaseBatches l).mgmt = s.mgmt := by unfold State.releaseBatches; split <;> simp
@[simp] theorem releaseBatches_counters (l : List Batch) : (s.releaseBatches l).counters = s.counters := by unfold State.releaseBatches; split <;> simp
@[simp] theorem releaseBatches_link (l : List Batch) (j : Port) : (s.releaseBatches l).link j = s.link j := by simp [State.link]
@[simp] theorem releaseBatches_queue (l : List Batch) (j : QueueId) : (s.releaseBatches l).queue j = s.queue j := by simp [State.queue]
@[simp] theorem releaseBatches_trunk (l : List Batch) (j : TrunkId) : (s.releaseBatches l).trunk j = s.trunk j := by simp [State.trunk]
theorem releaseBatches_pool (l : List Batch) : (s.releaseBatches l).pool =
    { l.foldl (fun acc b => acc.give b.queue.acct b.cells 1) s.pool with low := (s.releaseBatches l).pool.low } := by
  unfold State.releaseBatches
  dsimp only
  split
  · simp
  · rw [monitor_pool]; simp
theorem releaseBatches_events (l : List Batch) :
    (s.releaseBatches l).events = { s.events with raised := (s.releaseBatches l).events.raised } := by
  unfold State.releaseBatches; dsimp only; split
  · simp
  · rw [monitor_events]; simp
theorem releaseBatches_raised (l : List Batch) :
    ∃ x, (s.releaseBatches l).events.raised = s.events.raised ++ x ∧ ∀ a ∈ x, a.block = .cellPool := by
  unfold State.releaseBatches; dsimp only; split
  · exact ⟨[], by simp, by simp⟩
  · exact monitor_raised (s.modPool fun p => l.foldl (fun acc b => acc.give b.queue.acct b.cells 1) p)
/-- R62: what the release gives back, whatever the monitor does after it. -/
theorem releaseBatches_spec (l : List Batch) :
    (s.releaseBatches l).pool.freeCells = s.pool.freeCells + (l.map Batch.cells).sum ∧
      (s.releaseBatches l).pool.freeDescriptors = s.pool.freeDescriptors + l.length ∧
      (s.releaseBatches l).pool.lowWater = s.pool.lowWater ∧
      ∀ a, (s.releaseBatches l).account a = { s.account a with
        inUse := (s.account a).inUse - ((l.filter fun b => b.queue.acct == a).map Batch.cells).sum } := by
  obtain ⟨h1, h2, h3, -, h5⟩ := foldl_give l s.pool _ rfl
  refine ⟨?_, ?_, ?_, fun a => ?_⟩
  · rw [releaseBatches_pool, h1]
  · rw [releaseBatches_pool, h2]
  · rw [releaseBatches_pool, h3]
  · rw [State.account, releaseBatches_pool]; exact h5 a
@[simp] theorem releaseBatches_awaiting (l : List Batch) : (s.releaseBatches l).events.awaiting = s.events.awaiting := by
  rw [releaseBatches_events]
@[simp] theorem releaseBatches_orders (l : List Batch) : (s.releaseBatches l).events.orders = s.events.orders := by
  rw [releaseBatches_events]

/-- What a release does to the pool and to the waiting raises depends on nothing else. -/
theorem release_congr {s t : State} (h : s.pool = t.pool) (h' : s.events = t.events) (a : AcctId) (n d : Nat) :
    (s.release a n d).pool = (t.release a n d).pool ∧ (s.release a n d).events = (t.release a n d).events := by
  unfold State.release State.monitor State.raise State.modPool State.modEvents
  simp only [h, h']
  split <;> (try split) <;> (try split) <;> simp_all
theorem releaseBatches_congr {s t : State} (h : s.pool = t.pool) (h' : s.events = t.events) (l : List Batch) :
    (s.releaseBatches l).pool = (t.releaseBatches l).pool ∧
      (s.releaseBatches l).events = (t.releaseBatches l).events := by
  unfold State.releaseBatches State.monitor State.raise State.modPool State.modEvents
  simp only [h, h']
  split <;> (try split) <;> (try split) <;> simp_all

/-! ### A block takes the restart -/

@[simp] theorem drainedOff_pending : s.drainedOff.pending = s.pending := rfl
@[simp] theorem drainedOff_resetLow : s.drainedOff.resetLow = s.resetLow := rfl
@[simp] theorem drainedOff_now : s.drainedOff.now = s.now := rfl
@[simp] theorem drainedOff_ownAddress : s.drainedOff.ownAddress = s.ownAddress := rfl
@[simp] theorem drainedOff_links : s.drainedOff.links = s.links := rfl
@[simp] theorem drainedOff_edge : s.drainedOff.edge = s.edge := rfl
@[simp] theorem drainedOff_steer : s.drainedOff.steer = s.steer := rfl
@[simp] theorem drainedOff_pool : s.drainedOff.pool = s.pool := rfl
@[simp] theorem drainedOff_profiles : s.drainedOff.profiles = s.profiles := rfl
@[simp] theorem drainedOff_trunks : s.drainedOff.trunks = s.trunks := rfl
@[simp] theorem drainedOff_mgmt : s.drainedOff.mgmt = s.mgmt := rfl
@[simp] theorem drainedOff_events : s.drainedOff.events = s.events := rfl
@[simp] theorem drainedOff_counters : s.drainedOff.counters = s.counters := rfl
theorem drainedOff_queue (q : QueueId) :
    s.drainedOff.queue q = if s.drained q then (s.queue q).turnedOff else s.queue q := by
  simp [State.drainedOff, State.queue]

/-- What a fold of steps leaves alone when each step does. -/
theorem foldl_keeps {α β : Type} {f : State → α → State} {g : State → β} (h : ∀ s a, g (f s a) = g s) (l : List α) :
    ∀ s, g (l.foldl f s) = g s := by
  induction l with
  | nil => intro s; rfl
  | cons a rest ih => intro s; rw [List.foldl_cons, ih, h]

/-- R99: the windows that are empty change nothing but trunk units, and no window. -/
theorem foldl_windowEmptied (l : List TrunkId) :
    ∀ s, l.foldl State.windowEmptied s = { s with trunks := (l.foldl State.windowEmptied s).trunks } := by
  induction l with
  | nil => intro s; rfl
  | cons a rest ih =>
    intro s
    have h : s.windowEmptied a = { s with trunks := (s.windowEmptied a).trunks } := by
      unfold State.windowEmptied; split <;> (try split) <;> rfl
    rw [List.foldl_cons, ih, h]
theorem foldl_windowEmptied_bundles (l : List TrunkId) (t : TrunkId) :
    ∀ s, ((l.foldl State.windowEmptied s).trunk t).bundles = (s.trunk t).bundles := by
  apply foldl_keeps (g := fun x => (x.trunk t).bundles)
  intro s a
  by_cases h : t = a
  · subst h; unfold State.windowEmptied; split <;> (try split) <;> simp
  · unfold State.windowEmptied; split <;> (try split) <;> simp [h]

/-- R165: no block's restart but the counter block's changes a counter, and none changes what a restart keeps apart from
all blocks: the waiting commands, RESET_N, the timestamp, the own address, the profiles, the restart's own progress. -/
theorem blockRestarts_keeps (b : RestartBlock) :
    (s.blockRestarts b).pending = s.pending ∧ (s.blockRestarts b).resetLow = s.resetLow ∧
      (s.blockRestarts b).now = s.now ∧ (s.blockRestarts b).ownAddress = s.ownAddress ∧
      (s.blockRestarts b).profiles = s.profiles ∧ (s.blockRestarts b).events.awaiting = s.events.awaiting ∧
      (s.blockRestarts b).events.orders = s.events.orders ∧
      (b ≠ .counterBlock → (s.blockRestarts b).counters = s.counters) := by
  cases b with
  | linkLayer p =>
    simp only [State.blockRestarts, State.linkLayerRestarts]
    split <;> simp
  | edgeUnit =>
    simp only [State.blockRestarts, State.edgeUnitRestarts, release_pending, release_resetLow, release_now,
      release_ownAddress, release_profiles, release_counters]
    rw [release_events]
    simp
  | queueUnit =>
    simp only [State.blockRestarts, State.queueUnitRestarts]
    refine ⟨?_, ?_, ?_, ?_, ?_, ?_, ?_, fun _ => ?_⟩
    · rw [foldl_keeps (g := State.pending) (by intros; simp)]; simp
    · rw [foldl_keeps (g := State.resetLow) (by intros; simp)]; simp
    · rw [foldl_keeps (g := State.now) (by intros; simp)]; simp
    · rw [foldl_keeps (g := State.ownAddress) (by intros; simp)]; simp
    · rw [foldl_keeps (g := State.profiles) (by intros; simp)]; simp
    · rw [foldl_keeps (g := fun x => x.events.awaiting) (by intros; simp)]; simp
    · rw [foldl_keeps (g := fun x => x.events.orders) (by intros; simp)]; simp
    · rw [foldl_keeps (g := State.counters) (by intros; simp)]; simp
  | trunkUnit t => simp [State.blockRestarts, State.trunkUnitRestarts]
  | steeringUnit => simp [State.blockRestarts]
  | cellPool => simp [State.blockRestarts]
  | managementUnit => simp [State.blockRestarts]
  | eventUnit => simp [State.blockRestarts, EventUnit.restarted]
  | counterBlock => simp [State.blockRestarts]

/-! ### Progress of the restart -/

/-- R154: every block takes a restart. -/
theorem RestartBlock.mem_all (b : RestartBlock) : b ∈ RestartBlock.all := by
  cases b <;> simp [RestartBlock.all]

theorem restartBlock_of_mem {s : State} {b : RestartBlock} (h : b ∈ s.events.awaiting) : s.restartBlock b =
    (s.modEvents fun e => { e with awaiting := e.awaiting.filter fun x => x != b }).blockRestarts b := if_pos h
theorem restartBlock_of_not_mem {s : State} {b : RestartBlock} (h : b ∉ s.events.awaiting) : s.restartBlock b = s := if_neg h

/-- R154: the blocks named have taken the restart, and no other. -/
theorem restartBlock_awaiting (b : RestartBlock) :
    (s.restartBlock b).events.awaiting = s.events.awaiting.filter fun x => x != b := by
  by_cases h : b ∈ s.events.awaiting
  · rw [restartBlock_of_mem h, (blockRestarts_keeps _ b).2.2.2.2.2.1]; simp
  · rw [restartBlock_of_not_mem h, List.filter_eq_self.mpr]
    intro x hx
    simp only [bne_iff_ne, ne_eq]
    rintro rfl
    exact h hx
theorem foldl_restartBlock_awaiting (order : List RestartBlock) :
    (order.foldl State.restartBlock s).events.awaiting = s.events.awaiting.filter fun x => !order.contains x := by
  induction order generalizing s with
  | nil => simp
  | cons b rest ih =>
    rw [List.foldl_cons, ih, restartBlock_awaiting, List.filter_filter]
    congr 1
    funext x
    by_cases h : x = b <;> simp [h]

/-- Whatever every block's restart keeps, the taking of the restart by any blocks keeps. -/
theorem foldl_restartBlock_keeps {β : Type} {g : State → β}
    (h : ∀ s b, g (s.blockRestarts b) = g s) (he : ∀ s f, g (s.modEvents f) = g s) (order : List RestartBlock) :
    g (order.foldl State.restartBlock s) = g s := by
  apply foldl_keeps (g := g)
  intro s b
  unfold State.restartBlock
  split
  · rw [h, he]
  · rfl

/-! ### RESTART_BEGIN -/

/-- R8: with nothing to send, a selector sends nothing. -/
theorem select_nothing {p : Port} (hc : (s.link p).control = [])
    (he : ∀ k : EdgeId, k.port = p → s.edge.returns.get k = [])
    (ht : ∀ t : TrunkId, t.port = p → (s.trunk t).bundles = [] ∧ ∀ q, (s.queue q).ready = []) : s.select p = s := by
  rcases port_cases p with ⟨k, rfl⟩ | ⟨t, rfl⟩
  · rw [select_edgePort, State.edgeSelect, hc, he k rfl]
    simp
  · obtain ⟨hb, hr⟩ := ht t rfl
    have hch : s.choose t = none := by simp [State.choose, State.candidate, hr]
    rw [select_trunkPort, State.trunkSelect, hc]
    simp [Trunk.oldestDue, hb, State.grantNext, hch]

@[simp] theorem restartStarts_pending : s.restartStarts.pending = s.pending := by unfold State.restartStarts; split <;> simp
@[simp] theorem restartStarts_resetLow : s.restartStarts.resetLow = s.resetLow := by unfold State.restartStarts; split <;> simp
theorem selectAborted_pending (t : State) (p : Port) : (s.selectAborted t p).pending = t.pending := by
  unfold State.selectAborted; split <;> simp
theorem selectAborted_resetLow (t : State) (p : Port) : (s.selectAborted t p).resetLow = t.resetLow := by
  unfold State.selectAborted; split <;> simp
theorem selectAborted_events (t : State) (p : Port) : (s.selectAborted t p).events = t.events := by
  unfold State.selectAborted; split <;> simp

/-- The restart of the part leaves the waiting commands alone. -/
@[simp] theorem restarts_pending : s.restarts.pending = s.pending := by
  have h : ((List.finRange 12).foldl (State.selectAborted s) (s.events.nextOrder.foldl State.restartBlock
      (s.restartStarts.modEvents fun e => { e with orders := e.orders.tail }))).pending = s.pending := by
    rw [foldl_keeps (g := State.pending) (selectAborted_pending s),
      foldl_restartBlock_keeps (g := State.pending) _ (fun s b => (blockRestarts_keeps s b).1) (by intros; simp)]
    simp
  unfold State.restarts
  dsimp only
  split
  · rfl
  · split
    · simp [h]
    · exact h
@[simp] theorem restarts_resetLow : s.restarts.resetLow = s.resetLow := by
  have h : ((List.finRange 12).foldl (State.selectAborted s) (s.events.nextOrder.foldl State.restartBlock
      (s.restartStarts.modEvents fun e => { e with orders := e.orders.tail }))).resetLow = s.resetLow := by
    rw [foldl_keeps (g := State.resetLow) (selectAborted_resetLow s),
      foldl_restartBlock_keeps (g := State.resetLow) _ (fun s b => (blockRestarts_keeps s b).2.1) (by intros; simp)]
    simp
  unfold State.restarts
  dsimp only
  split
  · rfl
  · split
    · simp [h]
    · exact h

end Sys2Proof.Machine
end

