-- ==== Sys2Proof/Tests/Slice0.lean ====
section
/-! SUPPORT. Tests: the check of commands refuses what is ill formed, single steps of every family against values of the
manual, and for each statement states and operands that meet its hypotheses (`test_meets_…`). -/

namespace Sys2Proof.Tests
open Sys2Proof.Machine

/-! ### The states of the tests: small changes of the state after a hard reset -/

def after (o : Result) : Option State :=
  match o with
  | .next t => some t
  | .fault _ => none
  | .refused _ => none

def s0 : State := State.reset
def upAt (p : Port) (s : State) : State := s.modLink p fun l => { l with up := true }
def withWire (p : Port) (w : OnWire) (s : State) : State := s.modLink p fun l => { l with wire := some w }
def withControl (p : Port) (l : List ControlFrame) (s : State) : State := s.modLink p fun x => { x with control := l }
def withTrunk (t : TrunkId) (m : TrunkMode) (l : List Bundle) (s : State) : State :=
  s.modTrunk t fun k => { k with state := m, bundles := l }
def withQueue (q : QueueId) (m : QueueMode) (s : State) : State := s.modQueue q fun u => { u with state := m }
def withOpen (q : QueueId) (b : Batch) (s : State) : State := s.modQueue q fun u => { u with openBatch := some b }
def withReady (q : QueueId) (l : List Batch) (s : State) : State := s.modQueue q fun u => { u with ready := l }
def withMode (m : MgmtMode) (s : State) : State := s.modMgmt fun x => { x with mode := m }
def withOwner (a : Half) (s : State) : State := s.modMgmt fun x => { x with owner := some { addr := a, port := 3, lease := 500 } }
def withNow (n : Word) (s : State) : State := { s with now := n }
def withFree (n : Nat) (s : State) : State := s.modPool fun p => { p with freeCells := n }

/-- A frame with sequence and flags 0. -/
def frame (kind : Byte) (dst src : Half) (payload : List Byte) : Frame :=
  { kind := kind, tag := 7, dst := dst, src := src, seq := 0, flags := 0, payload := payload }

def controlFrame (restart : Bool) : ControlFrame := { frame := frame 0x04 0x1234 0xFE00 [], restart := restart }

def member : Member := { src := 0x0101, tag := 7, nodeSeq := 0, port := 0, payload := [1, 2, 3, 4] }

def batch (q : QueueId) : Batch :=
  { queue := q, members := [member], threshold := 1024, frameLimit := 16, openTime := 0, ageDeadline := some 1000,
    closeReason := none }

def bundle (seq : Byte) (retiring : Bool) : Bundle :=
  { batch := (batch 0).closed .age, seq := seq, retry := 0, due := none, retryDeadline := none, retiring := retiring }

/-- A request from 0x1234 at port E0. -/
def req (bytes : List Byte) : Request := { payload := bytes, src := 0x1234, port := 0 }

/-- The request stands alone in the queue of `s`, whose owner is its sender and whose port E0 is up. -/
def asking (bytes : List Byte) (s : State) : State :=
  (upAt 0 (withOwner 0x1234 s)).modMgmt fun m => { m with requests := [req bytes] }

/-- The hypotheses of the statements about requests, for a list of requests of one kind. -/
def Admitted (k : RequestKind) (l : List (List Byte)) (s : State) : Prop :=
  ∀ b ∈ l, (asking b s).admits (req b) [] k

/-! ### The check of commands -/

theorem test_wf_hold_at_edge : (Instr.holdDeadlineExpiry 7).wf = false := by decide
theorem test_wf_retry_at_edge : (Instr.retryDeadlineExpiry 0 5).wf = false := by decide
theorem test_wf_at_trunk : (Instr.holdDeadlineExpiry 8).wf = true ∧ (Instr.retryDeadlineExpiry 11 5).wf = true := by
  decide
theorem test_no_word_is_a_command : decodeTableWord 8 0 = none ∧ s0.withFetchWord 8 0 = s0 := by
  exact ⟨rfl, rfl⟩

/-! ### Frames -/

/-- The published check value of this CRC over the digits 1 to 9. -/
theorem test_crc : crc [0x31, 0x32, 0x33, 0x34, 0x35, 0x36, 0x37, 0x38, 0x39] = 0x29B1 := by decide +kernel

/-- R6: over header, payload and check bytes the register is left at zero. -/
theorem test_crc_residue : crc (frame 0x01 0x0202 0x0101 [9, 8, 7]).bytes = 0 := by decide +kernel

/-- R4: the header of a DATA frame, byte by byte, from the layout of the rule. -/
theorem test_header : (frame 0x01 0x0A0B 0x0C0D [1, 2]).header = [0x01, 7, 0x0A, 0x0B, 0x0C, 0x0D, 0, 0, 0, 2] := by
  decide

theorem test_frame_reads_back : validate (frame 0x03 0xFE00 0x0101 [2, 5, 6]).bytes =
    .ok (frame 0x03 0xFE00 0x0101 [2, 5, 6]) := by
  decide +kernel

/-- R9: one frame for each reason of a drop. -/
theorem test_drop_reasons :
    validate (List.replicate 11 0) = .error .length ∧
    validate (frame 0x04 0xFE00 0x0101 [0, 0, 1]).bytes = .error .length ∧
    validate (frame 0x01 0xFE00 0x0101 (List.replicate 241 0)).bytes = .error .oversize ∧
    validate ((frame 0x01 0xFE00 0x0101 [1]).bytes.set 10 2) = .error .badCheck ∧
    validate (frame 0x02 0xFE00 0x0101 []).bytes = .error .badKind ∧
    validate (frame 0x01 0xFE00 0x0000 []).bytes = .error .badSource ∧
    validate (frame 0x01 0xFE00 0xFFFF []).bytes = .error .badSource := by
  decide +kernel

/-- R4: a payload of 240 bytes is the longest, and passes test 3. -/
theorem test_longest_frame : (frame 0x01 0xFE00 0x0101 (List.replicate 240 0)).bytes.length = 252 := by decide +kernel

/-! ### Steps, resets and link reports -/

theorem test_meets_StepRunsTheFrontCommand :
    ({ s0 with pending := [.timestampTick] } : State).pending = .timestampTick :: [] ∧ s0.pending = [] := by decide

theorem test_step_takes_the_front : (after (step { s0 with pending := [.timestampTick, .commit] })).map
    (fun t => (t.now, t.pending)) = some (1, [.commit]) := by decide

/-- R155, R156: straps 111111 give own address 0xFE3F. -/
theorem test_hard_reset : (after (exec (.hardReset 0b111111) (upAt 3 (withNow 77 s0)))).map
    (fun t => (t.ownAddress, t.now, (t.link 3).up, t.edge.secondDeadline)) = some (0xFE3F, 0, false, 1000000) := by
  decide

theorem test_meets_ResetLowHoldsThePart : ({ s0 with resetLow := true } : State).resetLow = true ∧
    s0.resetLow = false ∧ (∀ straps, Instr.commit ≠ .hardReset straps) ∧ Instr.commit ≠ .resetNLow :=
  ⟨rfl, rfl, nofun, nofun⟩

theorem test_reset_low : (after (exec .resetNLow (withWire 0 { frame := frame 4 1 2 [], owner := .control } (upAt 0 s0)))).map
    (fun t => (t.resetLow, (t.link 0).wire, (t.link 0).up)) = some (true, none, true) := by decide

theorem test_tick_wraps : (after (exec .timestampTick (withNow 0xFFFFFFFF s0))).map (fun t => t.now) = some 0 := by
  decide

theorem test_meets_LinkUpReport :
    s0.resetLow = false ∧ ((upAt 8 s0).link 8).up = true ∧ (s0.link 8).up = false ∧ (s0.link 7).up = false ∧
    TrunkId.port 0 = 8 ∧ TrunkId.port 1 ≠ 8 ∧ (s0.trunk 0).state = .waiting ∧
    ((withTrunk 0 .holding [bundle 0 false] s0).trunk 0).state = .holding ∧
    ((withTrunk 0 .disabled [] s0).trunk 0).state ≠ .waiting ∧ ((withTrunk 0 .disabled [] s0).trunk 0).state ≠ .holding := by
  decide

/-- R101: at link UP a HOLDING port goes to RUNNING, its bundle is due and its resend starts at once. -/
theorem test_link_up_resends : (after (exec (.linkUp 8) (withTrunk 0 .holding [bundle 0 false] s0))).map
    (fun t => ((t.trunk 0).state, (t.link 8).wire.map (fun w => (w.owner, w.frame.flags)), t.trunkCounter 0 .retransmissions)) =
      some (.running, some (.bundle 0, 1), 1) := by decide

def waitingFor (restart : Bool) (p : Port) : MgmtMode := .responseWait (controlFrame restart) p 10000

theorem test_meets_LinkDownReport :
    s0.resetLow = false ∧ (s0.link 11).up = false ∧ ((upAt 11 s0).link 11).up = true ∧
    ((upAt 11 (withMode (waitingFor false 11) s0)).link 11).up = true ∧
    (withMode (waitingFor false 11) s0).mgmt.mode = .responseWait (controlFrame false) 11 10000 ∧
    (withMode (waitingFor true 11) s0).mgmt.mode = .responseWait (controlFrame true) 11 10000 ∧
    (controlFrame false).restart = false ∧ (withMode .restartWait s0).mgmt.mode = .restartWait ∧
    ((withControl 11 [controlFrame true] s0).link 11).control.any ControlFrame.restart = true := by
  decide

theorem test_meets_LinkDownReport_not_waiting : ∀ c d, s0.mgmt.mode ≠ .responseWait c 11 d := nofun

/-- R3, R15: a reception in progress and two control frames are lost. -/
theorem test_link_down : (after (exec (.linkDown 0 true) (withControl 0 [controlFrame false, controlFrame false] (upAt 0 s0)))).map
    (fun t => ((t.link 0).up, t.portCounter 0 .aborted, t.portCounter 0 .controlLost, t.events.raised)) =
      some (false, 1, 2, [{ block := .linkLayer 0, events := [{ kind := .linkDown, subject := 0, detail := 2 }] }]) := by
  decide

theorem test_meets_LinkDownAtEdgePort : s0.resetLow = false ∧ ((upAt 7 s0).link (EdgeId.port 7)).up = true := by
  decide

/-- A RETIRING bundle on the wire of trunk port T3. -/
def retiringOnWire (m : TrunkMode) : State :=
  withWire 11 { frame := frame 2 0xFFFF 0xFE00 [], owner := .bundle 5 } (withTrunk 3 m [bundle 5 true] (upAt 11 s0))

theorem test_meets_LinkDownAtTrunkPort :
    s0.resetLow = false ∧ ((upAt 11 s0).link (TrunkId.port 3)).up = true ∧
    ((upAt 11 (withTrunk 3 .running [] s0)).trunk 3).state = .running ∧
    State.keptAtAbort (upAt 11 (withTrunk 3 .running [] s0)) 3 = [] ∧
    ((retiringOnWire .stopping).trunk 3).state = .stopping ∧ State.keptAtAbort (retiringOnWire .stopping) 3 = [] ∧
    State.keptAtAbort (withTrunk 3 .running [bundle 5 false] (upAt 11 s0)) 3 = [bundle 5 false] ∧
    (s0.trunk 3).holdTime ≠ 0 ∧ ((s0.modTrunk 3 fun k => { k with holdTime := 0 }).trunk 3).holdTime = 0 ∧
    ((withTrunk 3 .disabled [] s0).trunk 3).state = .disabled ∧
    ((retiringOnWire .stopping).trunk 3).bundles.find? (fun x => x.seq == 5) = some (bundle 5 true) ∧
    (bundle 5 true).retiring = true ∧
    ((retiringOnWire .stopping).link (TrunkId.port 3)).wire = some { frame := frame 2 0xFFFF 0xFE00 [], owner := .bundle 5 } := by
  decide

/-- R122: a RETIRING bundle whose transmission link DOWN aborts is retired, and STOPPING ends. -/
theorem test_link_down_retires : (after (exec (.linkDown 11 false) (retiringOnWire .stopping))).map
    (fun t => ((t.trunk 3).state, (t.trunk 3).bundles, t.trunkCounter 3 .transmitAborted, t.queueCounter 0 .bundlesAcked)) =
      some (.disabled, [], 1, 1) := by decide

/-- R100: with outstanding bundles a RUNNING port holds. -/
theorem test_link_down_holds : (after (exec (.linkDown 11 false) (withTrunk 3 .running [bundle 5 false] (upAt 11 s0)))).map
    (fun t => ((t.trunk 3).state, (t.trunk 3).hold)) = some (.holding, some 500000) := by decide

/-! ### Frames that arrive -/

theorem test_meets_ReceiveValidation : s0.resetLow = false ∧ ((upAt 0 s0).link 0).up = true := by decide

/-- R9: a valid frame of 12 bytes; log 2: at a port that is DOWN nothing arrives. -/
theorem test_meets_ReceiveValidation_valid :
    validate (frame 0x01 0x0202 0x0101 []).bytes = .ok (frame 0x01 0x0202 0x0101 []) ∧ (s0.link 0).up = false := by
  decide +kernel

def mgmtFrame (dst : Half) (kind : Byte) : Frame := frame 0x04 dst 0x1234 [0, 1, kind, 0]

def requests (n : Nat) (overflow : Bool) (s : State) : State :=
  s.modMgmt fun m => { m with requests := List.replicate n (req [0, 1, 1, 0]), overflow := overflow }

theorem test_meets_ManagementFrameArrival :
    s0.resetLow = false ∧ ((upAt 0 s0).link 0).up = true ∧
    validate (mgmtFrame 0xFE00 0x02).bytes = .ok (mgmtFrame 0xFE00 0x02) ∧ (mgmtFrame 0xFE00 0x02).kind = 0x04 ∧
    (mgmtFrame 0xFE00 0x02).dst = s0.ownAddress ∧
    validate (mgmtFrame 0xFFFF 0x01).bytes = .ok (mgmtFrame 0xFFFF 0x01) ∧ (mgmtFrame 0xFFFF 0x01).dst = 0xFFFF ∧
    byteAt (mgmtFrame 0xFFFF 0x01).payload 2 = 0x01 ∧
    validate (mgmtFrame 0xFFFF 0x02).bytes = .ok (mgmtFrame 0xFFFF 0x02) ∧
    (mgmtFrame 0xFFFF 0x02).dst ≠ s0.ownAddress ∧ byteAt (mgmtFrame 0xFFFF 0x02).payload 2 ≠ 0x01 ∧
    (requests 3 false s0).mgmt.requests.length < 4 ∧ 4 ≤ (requests 4 true s0).mgmt.requests.length ∧
    (requests 4 true s0).mgmt.overflow = true ∧ (requests 4 false s0).mgmt.overflow = false := by
  decide +kernel

/-- R137: the fifth request is dropped, and MGMT_OVERFLOW is raised once. -/
theorem test_request_overflow :
    (after (exec (.frameArrival 0 (mgmtFrame 0xFE00 0x02).bytes) (upAt 0 (requests 4 false s0)))).map
      (fun t => (t.mgmt.requests.length, t.mgmt.overflow, t.mgmtCounter .mgmtDropped, t.portCounter 0 .receiveGood,
        t.events.raised)) =
      some (4, true, 1, 1, [{ block := .managementUnit, events := [{ kind := .mgmtOverflow, subject := 0, detail := 0x1234 }] }]) := by
  decide +kernel

def ackFrame (dst : Half) (payload : List Byte) : Frame := frame 0x03 dst 0x0202 payload

theorem test_meets_AckDropped :
    s0.resetLow = false ∧ ((upAt 7 s0).link (EdgeId.port 7)).up = true ∧ ((upAt 8 s0).link (TrunkId.port 0)).up = true ∧
    validate (ackFrame 0xFE00 []).bytes = .ok (ackFrame 0xFE00 []) ∧ (ackFrame 0xFE00 []).kind = 0x03 ∧
    (ackFrame 0xFE00 []).payload.length = 0 ∧
    (s0.edge.enabled.get 7 = true ∧ (s0.modEdge fun e => { e with enabled := e.enabled.set 7 false }).edge.enabled.get 7 = false) ∧
    validate (ackFrame 0x0101 [1, 0]).bytes = .ok (ackFrame 0x0101 [1, 0]) ∧ (ackFrame 0x0101 [1, 0]).dst ≠ s0.ownAddress ∧
    ((withTrunk 0 .disabled [] s0).trunk 0).state = .disabled ∧ (s0.trunk 0).state ≠ .disabled ∧
    validate (ackFrame 0xFE00 [0]).bytes = .ok (ackFrame 0xFE00 [0]) ∧ byteAt (ackFrame 0xFE00 [0]).payload 0 = 0 ∧
    validate (ackFrame 0xFE00 [9, 0]).bytes = .ok (ackFrame 0xFE00 [9, 0]) ∧ 8 < (byteAt (ackFrame 0xFE00 [9, 0]).payload 0).toNat ∧
    validate (ackFrame 0xFE00 [1]).bytes = .ok (ackFrame 0xFE00 [1]) ∧
    (ackFrame 0xFE00 [1]).payload.length ≠ 1 + (byteAt (ackFrame 0xFE00 [1]).payload 0).toNat := by
  decide +kernel

def ack8 : Frame := ackFrame 0xFE00 [8, 0, 1, 2, 3, 4, 5, 6, 7]

theorem test_meets_AckTakesListedSequences :
    s0.resetLow = false ∧ ((upAt 8 s0).link (TrunkId.port 0)).up = true ∧
    validate ack8.bytes = .ok ack8 ∧ ack8.kind = 0x03 ∧ (s0.trunk 0).state ≠ .disabled ∧ ack8.dst = s0.ownAddress ∧
    (byteAt ack8.payload 0).toNat ≤ 8 ∧ ack8.payload.length = 1 + (byteAt ack8.payload 0).toNat ∧
    validate (ackFrame 0xFE00 [1, 255]).bytes = .ok (ackFrame 0xFE00 [1, 255]) ∧
    1 ≤ (byteAt (ackFrame 0xFE00 [1, 255]).payload 0).toNat ∧
    (∀ b ∈ ((withTrunk 0 .running [bundle 5 false] s0).trunk 0).bundles, b.seq ≠ 255) ∧
    ((withTrunk 3 .running [bundle 5 false] s0).trunk 3).bundles.find? (fun x => x.seq == 5) = some (bundle 5 false) ∧
    ((retiringOnWire .running).trunk 3).bundles.find? (fun x => x.seq == 5) = some (bundle 5 true) ∧
    (retiringOnWire .running).onWire 3 5 = true ∧ (withTrunk 3 .running [bundle 5 false] s0).onWire 3 5 = false := by
  decide +kernel

/-- R124, R125: an ACK retires one bundle, and a sequence that stands in no window is stale. -/
theorem test_ack : (after (exec (.frameArrival 8 (ackFrame 0xFE00 [2, 5, 6]).bytes)
    (upAt 8 (withTrunk 0 .running [bundle 5 false] s0)))).map
      (fun t => ((t.trunk 0).bundles, t.queueCounter 0 .bundlesAcked, t.queueCounter 0 .framesDelivered, t.trunkCounter 0 .staleAck)) =
      some ([], 1, 1, 1) := by decide +kernel

/-- R117, R124: an acknowledged bundle on the wire becomes RETIRING, and the base moves past it. -/
theorem test_ack_on_wire :
    (after (exec (.frameArrival 11 (ackFrame 0xFE00 [1, 5]).bytes)
      (withWire 11 { frame := frame 2 0xFFFF 0xFE00 [], owner := .bundle 5 }
        (withTrunk 3 .running [bundle 5 false, bundle 6 false] (upAt 11 s0))))).map
      (fun t => (((t.trunk 3).bundles.map Bundle.retiring), (t.trunk 3).base)) = some ([true, false], 6) := by decide +kernel

/-! ### Edge traffic, queues and the pool -/

def dataFrame (dst : Half) : Frame := frame 0x01 dst 0x0101 [1, 2, 3, 4]

def known (i : DirPos) (o : Origin) (k : EdgeId) (s : State) : State :=
  s.modEdge fun e => { e with directory := e.directory.set i (some { addr := 0x0101, port := k, origin := o, lastSeen := 0 }) }

/-- A directory without a free position, 0x0101 not in it. -/
def fullDirectory (flag : Bool) (s : State) : State :=
  s.modEdge fun e => { e with
    directory := .ofFn fun i => some { addr := BitVec.ofNat 16 (0x0200 + i.val), port := 0, origin := .pinned, lastSeen := 0 }
    fullRefusal := flag }

theorem test_meets_BundleIsReleased : 0 = (bundle 5 false).batch.queue := rfl

theorem test_meets_EdgeDataIsLearned :
    s0.resetLow = false ∧ ((upAt 7 s0).link (EdgeId.port 7)).up = true ∧
    validate (dataFrame 0x0303).bytes = .ok (dataFrame 0x0303) ∧ (dataFrame 0x0303).kind = 0x01 ∧
    s0.edge.enabled.get 7 = true ∧ (s0.modEdge fun e => { e with enabled := e.enabled.set 7 false }).edge.enabled.get 7 = false ∧
    (known 63 .pinned 7 s0).edge.lookup 0x0101 = some (63, { addr := 0x0101, port := 7, origin := .pinned, lastSeen := 0 }) ∧
    (known 0 .learned 0 s0).edge.lookup 0x0101 = some (0, { addr := 0x0101, port := 0, origin := .learned, lastSeen := 0 }) ∧
    s0.edge.lookup 0x0101 = none ∧ s0.edge.freePosition = some 0 ∧
    (fullDirectory true s0).edge.lookup 0x0101 = none ∧ (fullDirectory true s0).edge.freePosition = none ∧
    (fullDirectory true s0).edge.fullRefusal = true ∧ (fullDirectory false s0).edge.fullRefusal = false := by
  decide +kernel

/-- R28 to R30: a new source is learned; a full directory refuses it and raises DIRECTORY_FULL once. -/
theorem test_learn :
    (s0.learn 7 0x0101).edge.directory.get 0 = some { addr := 0x0101, port := 7, origin := .learned, lastSeen := 0 } ∧
    ((fullDirectory false s0).learn 7 0x0101).portCounter 7 .learnRefused = 1 ∧
    ((fullDirectory false s0).learn 7 0x0101).events.raised =
      [{ block := .edgeUnit, events := [{ kind := .directoryFull, subject := 7, detail := 0x0101 }] }] ∧
    ((fullDirectory true s0).learn 7 0x0101).events.raised = [] := by
  decide

def entry (a : SteerAction) : SteerEntry :=
  { valid := true, portSet := 0b10000000, srcValue := 0x0100, srcMask := 0xFF00, tagValue := 7, tagMask := 0xFF,
    action := a, queue := 15 }

def withEntry (i : EntryId) (a : SteerAction) (s : State) : State :=
  s.modSteer fun x => { x with bankA := x.bankA.set i (entry a) }

/-- R43: port set, source and tag must all match. -/
theorem test_match : (entry .discard).hit 7 0x01AB 7 = true ∧ (entry .discard).hit 6 0x01AB 7 = false ∧
    (entry .discard).hit 7 0x02AB 7 = false ∧ (entry .discard).hit 7 0x01AB 6 = false ∧
    SteerEntry.blank.hit 7 0x01AB 7 = false := by decide

theorem test_meets_FirstMatchingEntryDecides :
    ((withEntry 255 .toQueue s0).steer.activeBank.get 255).hit 7 0x0101 7 = true ∧
    (∀ j : EntryId, j < 255 → ((withEntry 255 .toQueue s0).steer.activeBank.get j).hit 7 0x0101 7 = false) ∧
    ((withEntry 255 .toQueue s0).steer.activeBank.get 255).action = .toQueue ∧
    ((withEntry 0 .discard s0).steer.activeBank.get 0).hit 7 0x0101 7 = true ∧
    ((withEntry 0 .discard s0).steer.activeBank.get 0).action = .discard ∧
    (∀ j : EntryId, (s0.steer.activeBank.get j).hit 7 0x0101 7 = false) ∧ s0.steer.defaultAction = .discard ∧
    (s0.modSteer fun x => { x with defaultAction := .toQueue }).steer.defaultAction = .toQueue := by
  decide +kernel

/-- R44, R46: the lower of two matching entries decides and is counted. -/
theorem test_first_entry_decides :
    ((withEntry 3 .discard (withEntry 9 .toQueue s0)).classify 7 (dataFrame 0x0303)).portCounter 7 .steerDiscard = 1 ∧
    ((withEntry 3 .discard (withEntry 9 .toQueue s0)).classify 7 (dataFrame 0x0303)).steer.hitsA.get 3 = 1 ∧
    ((withEntry 3 .discard (withEntry 9 .toQueue s0)).classify 7 (dataFrame 0x0303)).steer.hitsA.get 9 = 0 := by
  decide

/-- The open batch of queue 0, one member of 10 bytes, with this threshold. -/
def openAt (threshold : Nat) (s : State) : State :=
  withOpen 0 { batch 0 with threshold := threshold } (withQueue 0 .active s)

def charged (a : AcctId) (n : Nat) (s : State) : State :=
  s.modPool fun p => { p with accounts := p.accounts.upd a fun c => { c with inUse := n } }

theorem test_meets_AdmissionToQueue :
    (∃ b, ((openAt 20 s0).queue 0).openBatch = some b ∧ b.byteSize + (6 + member.payload.length) ≤ b.threshold) ∧
    (∀ b, ((openAt 19 s0).queue 0).openBatch = some b → ¬ b.byteSize + (6 + member.payload.length) ≤ b.threshold) ∧
    (s0.queue 0).state ≠ .active ∧ ((openAt 20 s0).queue 0).state = .active ∧
    ((charged 0 256 s0).account 0).cap < ((charged 0 256 s0).account 0).inUse + member.cells ∧
    ((charged 0 255 s0).account 0).inUse + member.cells ≤ ((charged 0 255 s0).account 0).cap ∧
    (s0.account 0).unused + (withFree 64 s0).pool.freeCells < member.cells + (withFree 64 s0).pool.unusedSum ∧
    member.cells + (withFree 65 s0).pool.unusedSum ≤ (s0.account 0).unused + (withFree 65 s0).pool.freeCells ∧
    s0.pool.freeDescriptors ≠ 0 ∧ (s0.modPool fun p => { p with freeDescriptors := 0 }).pool.freeDescriptors = 0 ∧
    0 < ((withReady 0 [batch 0] s0).queue 0).ready.length ∧ (s0.queue 0).ready.length ≤ 0 := by
  refine ⟨⟨{ batch 0 with threshold := 20 }, by decide⟩, ?_, by decide⟩
  intro b h
  cases h
  decide

/-- R59: payloads of 58 and 59 bytes need one and two cells, and return frames of 54 and 55 bytes. -/
theorem test_cells : ({ member with payload := List.replicate 58 0 } : Member).cells = 1 ∧
    ({ member with payload := List.replicate 59 0 } : Member).cells = 2 ∧
    returnCells (frame 0x01 0 0 (List.replicate 54 0)) = 1 ∧ returnCells (frame 0x01 0 0 (List.replicate 55 0)) = 2 := by decide

/-- R78: with room for 9 more bytes the open batch closes with SIZE and a new one opens. -/
theorem test_enrol_opens_another : ((openAt 19 s0).enrol 0 member).queueCounter 0 .closedSize = 1 ∧
    (((openAt 19 s0).enrol 0 member).queue 0).ready.length = 1 ∧ (((openAt 19 s0).enrol 0 member).queue 0).openBatch.isSome = true ∧
    ((openAt 19 s0).enrol 0 member).pool.freeCells = 2047 := by decide

/-- R79: at the threshold exactly, the batch closes with SIZE. -/
theorem test_enrol_fills : ((openAt 20 s0).enrol 0 member).queueCounter 0 .closedSize = 1 ∧
    (((openAt 20 s0).enrol 0 member).queue 0).openBatch = none ∧
    (((openAt 20 s0).enrol 0 member).queue 0).ready.map (fun b => (b.members.length, b.closeReason)) = [(2, some .size)] := by
  decide

def poolLow (b : Bool) (s : State) : State := s.modPool fun p => { p with low := b }

theorem test_meets_FreeCellsAreMonitored :
    s0.pool.low = false ∧ s0.pool.lowWater = 128 ∧ 128 ≤ (withFree 129 s0).pool.freeCells - 1 ∧
    (withFree 128 s0).pool.freeCells - 1 < 128 ∧ (poolLow true s0).pool.low = true ∧
    (withFree 190 s0).pool.freeCells + 1 < 128 + 64 ∧ 128 + 64 ≤ (withFree 191 s0).pool.freeCells + 1 := by decide

/-- R69: POOL_LOW at 127, POOL_RECOVERED at 192, nothing at 128 and at 191. -/
theorem test_monitor :
    ((withFree 128 s0).grantCells 0 1 false).events.raised =
      [{ block := .cellPool, events := [{ kind := .poolLow, subject := 0, detail := 127 }] }] ∧
    ((withFree 129 s0).grantCells 0 1 false).events.raised = [] ∧
    ((withFree 191 (poolLow true s0)).release 0 1 0).events.raised =
      [{ block := .cellPool, events := [{ kind := .poolRecovered, subject := 0, detail := 192 }] }] ∧
    ((withFree 190 (poolLow true s0)).release 0 1 0).events.raised = [] := by decide

theorem test_meets_OpenBatchCloses :
    ((openAt 10 s0).queue 0).openBatch = some { batch 0 with threshold := 10 } ∧
    ({ batch 0 with threshold := 10 } : Batch).byteSize = 10 ∧ (batch 0).byteSize ≠ (batch 0).threshold ∧
    ({ batch 0 with frameLimit := 1 } : Batch).members.length = 1 ∧ (batch 0).members.length ≠ (batch 0).frameLimit ∧
    s0.resetLow = false ∧ (batch 0).ageDeadline = some 1000 ∧ reached 1000 1000 = true ∧ reached 999 1000 = false := by
  decide

/-- Log 2: an open batch without an age deadline, and a queue without an open batch. -/
theorem test_meets_OpenBatchCloses_none : (s0.queue 0).openBatch = none ∧
    ((withOpen 0 { batch 0 with ageDeadline := none } s0).queue 0).openBatch = some { batch 0 with ageDeadline := none } := by
  decide

/-- R167: a deadline just reached, one tick and half a circle ahead, and just under half a circle behind. -/
theorem test_reached : reached 5 5 = true ∧ reached (5 - 1) 5 = false ∧ reached (5 - 0x80000000) 5 = false ∧
    reached (5 + 0x7FFFFFFF) 5 = true := by decide

/-- R81: at its age deadline the open batch closes with AGE, and a RUNNING trunk port sends it at once. -/
theorem test_age_expiry : (after (exec (.ageDeadlineExpiry 0)
    (withNow 1000 (withTrunk 0 .running [] (upAt 8 (withOpen 0 (batch 0) (withQueue 0 .active s0))))))).map
      (fun t => (t.queueCounter 0 .closedAge, (t.link 8).wire.map OnWire.owner, (t.queue 0).outstanding)) =
      some (1, some (.bundle 0), 1) := by decide

/-- R112: the BUNDLE frame of that batch, written out from R16 and R17. -/
theorem test_bundle_frame : (bundleFrame s0 0 (bundle 0 false) false).payload =
    [0, 0, 0, 1, 3, 0, 0, 10] ++ [0x01, 0x01, 7, 0, 4, 0] ++ [1, 2, 3, 4] := by decide

/-! ### The return path -/

theorem test_meets_TrunkDataIsReturned :
    s0.resetLow = false ∧ ((upAt 8 s0).link (TrunkId.port 0)).up = true ∧
    validate (dataFrame 0x0101).bytes = .ok (dataFrame 0x0101) ∧ (dataFrame 0x0101).kind = 0x01 ∧
    (s0.modTrunk 0 fun k => { k with enabled := false }).trunk 0 ≠ s0.trunk 0 ∧ (s0.trunk 0).enabled = true ∧
    validate (dataFrame 0xFE00).bytes = .ok (dataFrame 0xFE00) ∧ (dataFrame 0xFE00).dst = s0.ownAddress ∧
    (dataFrame 0x0101).dst ≠ s0.ownAddress ∧ (dataFrame 0x0101).dst ≠ 0xFFFF ∧ s0.edge.lookup 0x0101 = none ∧
    (known 63 .learned 7 s0).edge.lookup 0x0101 = some (63, { addr := 0x0101, port := 7, origin := .learned, lastSeen := 0 }) ∧
    (s0.link (EdgeId.port 7)).up = false ∧ ((upAt 7 s0).link (EdgeId.port 7)).up = true ∧ s0.edge.enabled.get 7 = true ∧
    validate (dataFrame 0xFFFF).bytes = .ok (dataFrame 0xFFFF) ∧ (dataFrame 0xFFFF).dst = 0xFFFF ∧
    (∀ k : EdgeId, ¬ (s0.edge.enabled.get k = true ∧ (s0.link k.port).up = true)) ∧
    (∃ k : EdgeId, s0.edge.enabled.get k = true ∧ ((upAt 7 s0).link k.port).up = true) := by
  decide +kernel

/-- R37: a broadcast goes to both edge ports that are up, and each starts sending it. -/
theorem test_broadcast : (after (exec (.frameArrival 8 (dataFrame 0xFFFF).bytes) (upAt 7 (upAt 0 (upAt 8 s0))))).map
    (fun t => ((t.edge.returns.get 0).length, (t.edge.returns.get 7).length, (t.link 7).wire.map OnWire.owner,
      (t.account retAcct).inUse)) = some (1, 1, some .returnFrame, 2) := by decide +kernel

def returnList (k : EdgeId) (n : Nat) (s : State) : State :=
  s.modEdge fun e => { e with returns := e.returns.set k (List.replicate n (dataFrame 0x0101)) }

theorem test_meets_ReturnFrameAdmission :
    1 = (10 + (dataFrame 0x0101).payload.length + 63) / 64 ∧
    32 ≤ ((returnList 7 32 s0).edge.returns.get 7).length ∧ ((returnList 7 31 s0).edge.returns.get 7).length < 32 ∧
    ((charged 16 512 s0).account retAcct).cap < ((charged 16 512 s0).account retAcct).inUse + 1 ∧
    ((charged 16 511 s0).account retAcct).inUse + 1 ≤ ((charged 16 511 s0).account retAcct).cap ∧
    (s0.account retAcct).unused + (withFree 0 s0).pool.freeCells < 1 + (withFree 0 s0).pool.unusedSum ∧
    1 + (withFree 1 s0).pool.unusedSum ≤ (s0.account retAcct).unused + (withFree 1 s0).pool.freeCells := by
  decide

/-! ### Transmitters -/

/-- R107, R117: a RETIRING bundle does not hold the base back. -/
theorem test_window_base : ((withTrunk 0 .running [bundle 3 true, bundle 4 false] s0).trunk 0).base = 4 ∧
    ((withTrunk 0 .running [bundle 3 true] s0).trunk 0).base = 0 ∧
    ((withTrunk 0 .running [bundle 252 false] s0).trunk 0).span = 4 ∧
    (∀ x ∈ [bundle 3 true], x.retiring = true) ∧ (bundle 4 false).retiring = false := by decide

theorem test_meets_SelectorsChoice :
    (s0.link (EdgeId.port 0)).up = false ∧ ((upAt 0 s0).link (EdgeId.port 0)).up = true ∧
    ((upAt 0 s0).link (EdgeId.port 0)).wire = none ∧
    ((withControl 0 [controlFrame false] s0).link (EdgeId.port 0)).control = controlFrame false :: [] ∧
    ((upAt 0 s0).link (EdgeId.port 0)).control = [] ∧
    ((returnList 0 1 s0).edge.returns.get 0) = dataFrame 0x0101 :: [] ∧ s0.edge.returns.get 0 = [] ∧
    ((upAt 8 s0).link (TrunkId.port 0)).up = true ∧ ((upAt 8 s0).link (TrunkId.port 0)).wire = none ∧
    ((withControl 8 [controlFrame false] s0).link (TrunkId.port 0)).control = controlFrame false :: [] ∧
    (s0.trunk 0).state ≠ .running ∧ (s0.trunk 0).state ≠ .stopping ∧
    ((withTrunk 0 .running [{ bundle 3 false with due := some .counted }] s0).trunk 0).bundles.find?
      (fun x => !x.retiring && x.due.isSome) = some { bundle 3 false with due := some .counted } ∧
    ((withTrunk 0 .stopping [] s0).trunk 0).state = .stopping ∧
    (∀ b ∈ ((withTrunk 0 .running [bundle 252 false] s0).trunk 0).bundles, b.retiring = true ∨ b.due = none) ∧
    (s0.trunk 0).windowSize ≤ ((withTrunk 0 .running [bundle 252 false] s0).trunk 0).span ∧
    ((withTrunk 0 .running [bundle 253 false] s0).trunk 0).span < (s0.trunk 0).windowSize ∧
    s0.choose 0 = none ∧ (withReady 15 [batch 15] (withQueue 15 .active s0)).choose 0 = some (15, none) := by
  decide

theorem test_meets_GrantAndResend : ((withReady 15 [batch 15] s0).queue 15).ready = batch 15 :: [] ∧
    (bundle 0 false).batch.closeReason = some .age := by decide

/-- R106: a counted resend raises the retry count, and sets RETX. -/
theorem test_resend : let t := (withTrunk 0 .running [{ bundle 3 false with due := some .counted }] (upAt 8 s0)).trunkSelect 0
    (t.trunk 0).bundles.map (fun b => (b.retry, b.due)) = [(1, none)] ∧ (t.link 8).wire.map (fun w => w.frame.flags) = some 1 := by
  decide

def candidates (s : State) : State :=
  withReady 2 [batch 2] (withQueue 2 .active (withReady 9 [batch 9] (withQueue 9 .halting
    (s.modQueue 9 fun u => { u with priority := 3 }))))

def byPriority (s : State) : State := s.modTrunk 0 fun k => { k with priorityMode := true }

theorem test_meets_ArbitrationChoice : (∀ q, s0.candidate 0 q = false) ∧ (candidates s0).candidate 0 9 = true ∧
    ((candidates s0).trunk 0).priorityMode = false ∧ (candidates (byPriority s0)).candidate 0 2 = true ∧
    ((candidates (byPriority s0)).trunk 0).priorityMode = true := by decide

/-- R108, R109: ROUND_ROBIN takes the first after the pointer at queue 15, PRIORITY the highest level. -/
theorem test_choose : (candidates s0).choose 0 = some (2, none) ∧
    ((candidates s0).modTrunk 0 fun k => { k with rrPointer := 2 }).choose 0 = some (9, none) ∧
    (candidates (byPriority s0)).choose 0 = some (9, some 3) := by decide

def sending (p : Port) (o : WireOwner) (s : State) : State := withWire p { frame := frame 2 0xFFFF 0xFE00 [], owner := o } s

theorem test_meets_TransmissionEnds :
    s0.resetLow = false ∧ (s0.link 0).wire = none ∧
    ((sending 0 .control s0).link 0).wire = some { frame := frame 2 0xFFFF 0xFE00 [], owner := .control } ∧
    ((sending 7 .returnFrame s0).link (EdgeId.port 7)).wire = some { frame := frame 2 0xFFFF 0xFE00 [], owner := .returnFrame } ∧
    (returnList 7 2 (sending 7 .returnFrame s0)).edge.returns.get 7 = dataFrame 0x0101 :: [dataFrame 0x0101] ∧
    ((retiringOnWire .running).trunk 3).bundles.find? (fun x => x.seq == 5) = some (bundle 5 true) ∧ (bundle 5 true).retiring = true ∧
    ((retiringOnWire .running).link (TrunkId.port 3)).wire = some { frame := frame 2 0xFFFF 0xFE00 [], owner := .bundle 5 } ∧
    ((withTrunk 3 .running [bundle 5 false] s0).trunk 3).bundles.find? (fun x => x.seq == 5) = some (bundle 5 false) ∧
    (bundle 5 false).retiring = false := by
  decide

/-- R14: the end of a control frame at a trunk port is counted, and the next control frame starts. -/
theorem test_control_end : (after (exec (.transmissionEnd 8 true)
    (sending 8 .control (withControl 8 [controlFrame false, controlFrame false] (upAt 8 s0))))).map
      (fun t => ((t.link 8).control.length, t.trunkCounter 0 .controlSent, (t.link 8).wire.map OnWire.owner)) =
      some (1, 1, some .control) := by decide

/-- R121: the end of a bundle's transmission starts its retry deadline. -/
theorem test_bundle_end : (after (exec (.transmissionEnd 11 true)
    (sending 11 (.bundle 5) (withTrunk 3 .running [bundle 5 false] (upAt 11 s0))))).map
      (fun t => (t.trunk 3).bundles.map Bundle.retryDeadline) = some [some 2000] := by decide

theorem test_meets_EmptiedWindow : ((withTrunk 0 .running [bundle 5 false] s0).trunk 0).bundles ≠ [] ∧
    (s0.trunk 0).bundles = [] ∧ ((withTrunk 0 .stopping [] s0).trunk 0).state = .stopping ∧
    ((withTrunk 0 .holding [] s0).trunk 0).state = .holding ∧ (s0.trunk 0).state ≠ .stopping ∧ (s0.trunk 0).state ≠ .holding := by
  decide

/-! ### Deadlines -/

theorem test_reached_across_the_wrap : reached 5 0xFFFFFFFF = true ∧ reached 0xFFFFFFFE 0xFFFFFFFF = false := by
  decide

theorem test_meets_DirectorySecondPasses : s0.resetLow = false ∧
    reached (withNow 999999 s0).now s0.edge.secondDeadline = false ∧
    reached (withNow 1000000 s0).now s0.edge.secondDeadline = true := by decide

def seen (n : Word) (s : State) : State := s.modEdge fun e => { e with seconds := n }

/-- R31: an entry 300 seconds old stays, one 301 seconds old goes. -/
theorem test_aging :
    (after (exec .directorySecondExpiry (withNow 1000000 (seen 299 (known 0 .learned 0 s0))))).map
      (fun t => (t.edge.directory.get 0).isSome) = some true ∧
    (after (exec .directorySecondExpiry (withNow 1000000 (seen 300 (known 0 .learned 0 s0))))).map
      (fun t => (t.edge.directory.get 0).isSome) = some false := by decide

/-- Queue 0 halts, with one ready batch and one bundle in the window of T0. -/
def draining (s : State) : State :=
  (withReady 0 [batch 0] (withTrunk 0 .running [bundle 5 false] s)).modQueue 0 fun u =>
    { u with state := .halting, drain := some 1000, outstanding := 1 }

theorem test_meets_DrainDeadlineExpires : s0.resetLow = false ∧ ((draining s0).queue 0).trunk = 0 ∧
    [bundle 5 false] = ((draining s0).trunk 0).bundles.filter (fun b => b.batch.queue == 0) ∧
    [batch 0, (bundle 5 false).batch] = ((draining s0).queue 0).ready ++ [bundle 5 false].map Bundle.batch ∧
    (s0.queue 0).state ≠ .halting ∧ ((draining s0).queue 0).state = .halting ∧ ((draining s0).queue 0).drain = some 1000 ∧
    reached 999 1000 = false ∧ reached 1000 1000 = true ∧ (∃ b ∈ [bundle 5 false], (sending 8 (.bundle 5) s0).onWire 0 b.seq = true) ∧
    (∀ b ∈ [bundle 5 false], s0.onWire 0 b.seq = false) := by decide

/-- R87: the drain ends by force. -/
theorem test_drain_expiry : (after (exec (.drainDeadlineExpiry 0) (withNow 1000 (draining s0)))).map
    (fun t => ((t.queue 0).state, (t.trunk 0).bundles, t.queueCounter 0 .framesAbandoned, t.events.raised)) =
      some (.off, [], 2, [{ block := .queueUnit, events := [{ kind := .queueOff, subject := 0, detail := 2 }] }]) := by
  decide

def holding (s : State) : State := (withTrunk 3 .holding [bundle 5 false] s).modTrunk 3 fun k => { k with hold := some 1000 }

theorem test_meets_HoldDeadlineExpires : s0.resetLow = false ∧ (s0.trunk 3).state ≠ .holding ∧
    ((holding s0).trunk 3).state = .holding ∧ ((holding s0).trunk 3).hold = some 1000 ∧ reached 999 1000 = false ∧
    reached 1000 1000 = true := by decide

/-- R102: the hold expires; the port is WAITING and HOLD_EXPIRED carries one bundle. -/
theorem test_hold_expiry : (after (exec (.holdDeadlineExpiry 11) (withNow 1000 (holding s0)))).map
    (fun t => ((t.trunk 3).state, t.trunkCounter 3 .bundlesAbandoned, t.events.raised)) =
      some (.waiting, 1, [{ block := .trunkUnit 3, events := [{ kind := .holdExpired, subject := 11, detail := 1 }] }]) := by
  decide

def waitingBundle (n : Nat) (s : State) : State :=
  withTrunk 0 .running [{ bundle 5 false with retryDeadline := some 1000, retry := n }] s

theorem test_meets_RetryDeadlineExpires : s0.resetLow = false ∧ (∀ b ∈ (s0.trunk 0).bundles, b.seq ≠ 5) ∧
    ((waitingBundle 2 s0).trunk 0).bundles.find? (fun x => x.seq == 5) =
      some { bundle 5 false with retryDeadline := some 1000, retry := 2 } ∧
    (bundle 5 true).retiring = true ∧ (bundle 5 false).retiring = false ∧ (bundle 5 false).retryDeadline = none ∧
    reached 999 1000 = false ∧ reached 1000 1000 = true ∧ 2 < (s0.trunk 0).retryLimit ∧ (s0.trunk 0).retryLimit ≤ 3 ∧
    (s0.trunk 0).retryLimit ≠ 15 ∧ ((s0.modTrunk 0 fun k => { k with retryLimit := 15 }).trunk 0).retryLimit = 15 := by
  decide

/-- R127, R130: below the limit the bundle is sent again; at the limit it is abandoned. -/
theorem test_retry_expiry :
    (after (exec (.retryDeadlineExpiry 8 5) (withNow 1000 (waitingBundle 2 (upAt 8 s0))))).map
      (fun t => ((t.trunk 0).bundles.map Bundle.retry, (t.link 8).wire.map OnWire.owner)) = some ([3], some (.bundle 5)) ∧
    (after (exec (.retryDeadlineExpiry 8 5) (withNow 1000 (waitingBundle 3 (upAt 8 s0))))).map
      (fun t => ((t.trunk 0).bundles, t.queueCounter 0 .framesAbandoned)) = some ([], 1) := by
  decide

theorem test_meets_LeaseAndResponseWaitExpire : s0.resetLow = false ∧ s0.mgmt.owner = none ∧
    (withOwner 0x1234 s0).mgmt.owner = some { addr := 0x1234, port := 3, lease := 500 } ∧ reached 499 500 = false ∧
    reached 500 500 = true ∧ (∀ c p d, s0.mgmt.mode ≠ .responseWait c p d) ∧
    (withMode (waitingFor false 0) s0).mgmt.mode = .responseWait (controlFrame false) 0 10000 ∧
    (withMode (waitingFor true 0) s0).mgmt.mode = .responseWait (controlFrame true) 0 10000 ∧
    reached 9999 10000 = false ∧ reached 10000 10000 = true := by
  refine ⟨rfl, rfl, rfl, by decide, by decide, nofun, rfl, rfl, by decide, by decide⟩

/-- R148: the lease runs out. -/
theorem test_lease_expiry : (after (exec .leaseDeadlineExpiry (withNow 500 (withOwner 0x1234 s0)))).map
    (fun t => (t.mgmt.owner, t.events.raised)) =
      some (none, [{ block := .managementUnit, events := [{ kind := .ownerLost, subject := 3, detail := 0x1234 }] }]) := by
  decide

/-- R143, R152: the response wait runs out; the response of a RESTART is not counted. -/
theorem test_response_wait_expiry :
    (after (exec .responseWaitExpiry (withNow 10000 (withMode (waitingFor false 0) s0)))).map
      (fun t => (t.mgmt.mode, t.mgmtCounter .responseLost)) = some (.ready, 1) ∧
    (after (exec .responseWaitExpiry (withNow 10000 (withMode (waitingFor true 0) s0)))).map
      (fun t => (t.mgmt.mode, t.mgmtCounter .responseLost)) = some (.restartDue, 0) := by decide

/-- A slot for QUEUE_OFF (5) and RECORDS_LOST (15) at port E0. -/
def slot (owed pending : Half) : Slot :=
  { inUse := true, addr := 0x1234, port := 0, kindSet := 0x8020, repeatInterval := 200, noteSeq := 12, owed := owed,
    pending := pending, recurred := 0, repeatDeadline := if pending = 0 then none else some 1000 }

def withSlot (i : SlotId) (x : Slot) (s : State) : State := s.modSlot i fun _ => x

theorem test_meets_RepeatDeadlineExpires : s0.resetLow = false ∧ (s0.slot 7).inUse = false ∧
    (slot 0x20 0).repeatDeadline = none ∧ ((withSlot 7 (slot 0 0x20) s0).slot 7).inUse = true ∧
    ((withSlot 7 (slot 0 0x20) s0).slot 7).repeatDeadline = some 1000 ∧ reached 999 1000 = false ∧ reached 1000 1000 = true := by
  decide

/-- R177, R178: the pending kind is told again, and the deadline set anew. -/
theorem test_repeat_expiry : (after (exec (.repeatDeadlineExpiry 7) (withNow 1000 (withSlot 7 (slot 0 0x20) (upAt 0 s0))))).map
    (fun t => ((t.slot 7).pending, (t.slot 7).noteSeq, (t.slot 7).repeatDeadline, t.mgmtCounter .notesSent)) =
      some (0x20, 13, some 201000, 1) := by decide

/-! ### The part's own steps -/

def syncing (next : Nat) (s : State) : State :=
  (withEntry 255 .toQueue s).modSteer fun x => { x with syncing := true, nextIndex := next }

theorem test_meets_SyncStepCopiesOneEntry : s0.resetLow = false ∧ s0.steer.syncing = false ∧
    (syncing 255 s0).steer.syncing = true ∧ (syncing 255 s0).steer.nextIndex = (255 : EntryId).val ∧
    (syncing 0 s0).steer.nextIndex = (0 : EntryId).val := by decide

/-- R54, R55: the last sync step. -/
theorem test_last_sync_step : (after (exec .syncStep (syncing 255 s0))).map
    (fun t => (t.steer.bankB.get 255, t.steer.syncing, t.events.raised.map Arrival.events)) =
      some (entry .toQueue, false, [[{ kind := .tableSynced, subject := 0, detail := 0 }]]) := by decide +kernel

def off : Raise := { kind := .queueOff, subject := 4, detail := 1 }

def raisedOff (s : State) : State := s.raise .queueUnit [off]

def records (n : Nat) (s : State) : State :=
  s.modEvents fun e => { e with records := List.replicate n { kind := .linkUp, subject := 0, detail := 0, time := 0 } }

theorem test_meets_EventUnitTakesRaises : s0.resetLow = false ∧ (∀ a ∈ (raisedOff s0).events.raised, a.block ≠ .edgeUnit) ∧
    (raisedOff s0).events.raised.find? (fun x => x.block == .queueUnit) = some { block := .queueUnit, events := [off] } ∧
    false = decide (32 ≤ (records 31 s0).events.records.length) ∧ true = decide (32 ≤ (records 32 s0).events.records.length) ∧
    (slot 0 0).inUse = true ∧ (slot 0 0).kindSet.getLsbD EventKind.queueOff.code = true ∧
    (slot 0 0).kindSet.getLsbD EventKind.linkUp.code = false ∧ (slot 0 0x20).pending.getLsbD EventKind.queueOff.code = true ∧
    (slot 0 0).pending.getLsbD EventKind.queueOff.code = false := by decide

/-- R169, R177: the raise makes a record, and its NOTE carries slot 7, sequence 12 and kind 5. -/
theorem test_event_raise : (after (exec (.eventRaise .queueUnit) (withSlot 7 (slot 0 0) (raisedOff (upAt 0 s0))))).map
    (fun t => (t.events.records.length, (t.link 0).wire.map (fun w => w.frame.payload))) =
      some (1, some [7, 12, 0, 0x20, 0, 0, 0, 0, 0, 0, 0, 0]) := by decide

/-- R171: at a full record queue the record is lost, and RECORDS_LOST is owed with the kind. -/
theorem test_records_lost : (after (exec (.eventRaise .queueUnit) (withSlot 7 (slot 0 0) (records 32 (raisedOff s0))))).map
    (fun t => (t.events.records.length, t.events.lost, (t.slot 7).owed, t.mgmtCounter .notesRefused)) =
      some (32, 1, 0x8020, 1) := by decide

theorem test_meets_OpportunityOffersNotes :
    ((withSlot 7 (slot 0x20 0) s0).slot 7).inUse = true ∧ ((withSlot 7 (slot 0x20 0) s0).slot 7).owed ≠ 0 ∧
    ((withSlot 7 (slot 0x20 0) s0).slot 7).port = 0 ∧ (s0.slot 7).inUse = false ∧ (s0.link 0).up = false ∧
    ((upAt 0 s0).link 0).up = true ∧ 8 ≤ ((withControl 0 (List.replicate 8 (controlFrame false)) s0).link 0).control.length ∧
    ((withControl 0 (List.replicate 7 (controlFrame false)) s0).link 0).control.length < 8 := by decide

/-- A POOL_LOW pool of 1,948 free cells, and 100 cells of queue 0 in the window of trunk port 0. -/
def lowPool (s : State) : State :=
  (withTrunk 0 .running [{ bundle 5 false with batch := { batch 0 with members := List.replicate 100 member } }] s).modPool
    fun p => { p with freeCells := 1948, freeDescriptors := 255, lowWater := 1984, low := true }

theorem test_meets_RestartKeepsConfiguration : s0.resetLow = false ∧ s0.mgmt.mode ≠ .restartDue ∧
    s0.events.awaiting = [] ∧ (withMode .restartDue s0).mgmt.mode = .restartDue ∧ (∀ b ∈ s0.events.awaiting, b ≠ .edgeUnit) ∧
    RestartBlock.edgeUnit ∈ (withMode .restartDue s0).restartStarts.events.awaiting ∧
    ((lowPool s0).trunk 0).bundles.map (fun b => b.batch.cells) = [100] ∧ (lowPool s0).pool.low = true ∧
    (lowPool s0).pool.lowWater + 64 ≤ (lowPool s0).pool.freeCells + 100 ∧
    (lowPool s0).pool.freeCells + 99 < (lowPool s0).pool.lowWater + 64 ∧ s0.pool.low = false ∧
    s0.pool.lowWater ≤ s0.pool.freeCells + 0 ∧ (withFree 126 s0).pool.freeCells + 1 < s0.pool.lowWater := by decide

theorem test_meets_RestartKeepsConfiguration_order : ∀ b, b ∈ s0.events.nextOrder := by
  intro b
  cases b <;> simp [EventUnit.nextOrder, s0, State.reset, State.afterHardReset, EventUnit.reset, RestartBlock.all]

/-- R94, R154, R181: an ACTIVE queue stays ACTIVE, a HALTING one is OFF, and RESTARTED is the first record. -/
theorem test_restart_begin : (after (exec .restartBegin (withMode .restartDue (withQueue 1 .active (draining s0))))).map
    (fun t => ((t.queue 0).state, (t.queue 1).state, t.events.records.map EventRecord.kind, t.mgmt.lastCause, t.mgmt.mode)) =
      some (.off, .active, [.restarted], .restart, .ready) := by decide +kernel

/-- R62, R69, R72: the pool's own restart leaves POOL_LOW, and the window's release after it raises POOL_RECOVERED. -/
theorem test_release_after_the_pools_restart :
    ((lowPool s0).blockRestarts .cellPool).pool.low = true ∧ ((lowPool s0).blockRestarts .cellPool).events.raised = [] ∧
    (((lowPool s0).blockRestarts .cellPool).blockRestarts (.trunkUnit 0)).events.raised = [{ block := .cellPool, events :=
      [{ kind := .poolRecovered, subject := 0, detail := 2048 }] }] ∧
    (((lowPool s0).blockRestarts .cellPool).blockRestarts (.trunkUnit 0)).pool.low = false ∧
    (((lowPool s0).blockRestarts .cellPool).blockRestarts (.trunkUnit 0)).pool.freeDescriptors = 256 := by decide +kernel

/-- R154: an order that names two blocks leaves the others to take the restart in later commands. -/
theorem test_restart_in_parts : (after (exec .restartBegin ((withMode .restartDue s0).modEvents fun e =>
    { e with orders := [[.cellPool, .managementUnit, .cellPool]] }))).map
      (fun t => (t.mgmt.mode, t.events.awaiting.length, t.events.orders, t.events.records)) =
      some (.ready, 21, [], []) := by decide

/-! ### Requests of the management unit, items and counters -/

theorem test_meets_TakingAndRefusing :
    (asking [0, 1, 0x1A, 0] s0).heads (req [0, 1, 0x1A, 0]) [] ∧ (req [0, 1, 0x1A, 0]).kind = none ∧ (req [0, 1, 0, 0]).kind = none ∧
    (req [0, 1, 0x19, 0]).kind = some .restart ∧
    (req [0, 1, 0x01, 0, 9]).kind = some .identify ∧ (req [0, 1, 0x01, 0, 9]).payload.length ≠ 4 + RequestKind.identify.operandLength ∧
    (req [0, 1, 0x0A, 0]).kind = some .commit ∧ (req [0, 1, 0x0A, 0]).payload.length = 4 + RequestKind.commit.operandLength ∧
    (req [0, 1, 0x0A, 0]).mutating = true ∧
    (withOwner 0x4321 (asking [0, 1, 0x0A, 0] s0)).mgmt.owner.map Owner.addr ≠ some (req [0, 1, 0x0A, 0]).src ∧
    RequestRow.identify ≠ (req [0, 1, 0x0A, 0]).row := by
  unfold State.heads
  decide

/-- R19, R139: the codes next to the table's ends; kinds that need ownership always, with flag bit 0 alone, and never. -/
theorem test_kinds : (req [0, 1, 0x00, 0]).kind = none ∧ (req [0, 1, 0x01, 0]).kind = some .identify ∧
    (req [0, 1, 0x19, 0]).kind = some .restart ∧ (req [0, 1, 0x1A, 0]).kind = none ∧ (req [0, 1, 0xFF, 0]).kind = none ∧
    (req [0, 1, 0x19, 0]).mutating = true ∧ (req [0, 1, 0x17, 1]).mutating = true ∧ (req [0, 1, 0x17, 2]).mutating = false ∧
    (req [0, 1, 0x18, 1]).mutating = true ∧ (req [0, 1, 0x18, 0]).mutating = false ∧ (req [0, 1, 0x16, 1]).mutating = false ∧
    (req [0, 1, 0x17, 1]).row = .readEventsTake ∧ (req [0, 1, 0x18, 0]).row = .readCounters ∧
    (req [0, 1, 0x05, 0]).row = .writeItem := by decide

/-- Log 2: the unit does not take a request while it is not READY, or when none waits. -/
theorem test_meets_TakingAndRefusing_idle :
    (withMode .restartWait (asking [0, 1, 0x01, 0] s0)).mgmt.mode ≠ .ready ∧ s0.mgmt.requests = [] := by decide

/-- The payload of the response that a row starts to send at E0. -/
def answer (o : Result) : Option (List Byte) := (after o).bind fun t => (t.link 0).wire.map fun w => w.frame.payload

/-- R142: an unknown kind is answered BAD_REQUEST with its code; R139: a mutating request from another is answered
NOT_OWNER with the owner's address. -/
theorem test_refused :
    answer (exec .unknownRequestKind (asking [0, 9, 0x1A, 0] s0)) = some [0, 9, 0x1A, 3, 0, 0] ∧
    answer (exec .commit (withOwner 0x4321 (asking [0, 9, 0x0A, 0] s0))) = some [0, 9, 0x0A, 2, 0, 2, 0x43, 0x21] := by
  decide

theorem test_meets_ResponseIsOffered : (s0.link (req []).port).up = false ∧ ((upAt 0 s0).link (req []).port).up = true ∧
    ((withControl 0 (List.replicate 7 (controlFrame false)) s0).link 0).control.length < 8 ∧
    8 ≤ ((withControl 0 (List.replicate 8 (controlFrame false)) s0).link 0).control.length ∧
    (withMode (waitingFor false 0) s0).mgmt.mode = .responseWait (controlFrame false) 0 10000 ∧ (0 : Port) ≠ 1 ∧
    s0.mgmt.mode = .ready := by decide

/-- R143, R152: a place that is free takes the held response; that of a RESTART leads to RESTART_WAIT; a full list leaves
the wait and its deadline as they are. -/
theorem test_reoffer :
    ((withMode (waitingFor false 0) (upAt 0 s0)).reoffer 0).mgmt.mode = .ready ∧
    ((withMode (waitingFor true 0) (upAt 0 s0)).reoffer 0).mgmt.mode = .restartWait ∧
    ((withMode (waitingFor true 0) (upAt 0 s0)).reoffer 0).link 0 =
      { up := true, txCount := 1, control := [controlFrame true],
        wire := some { frame := (controlFrame true).frame, owner := .control } } ∧
    ((withMode (waitingFor false 0) (withControl 0 (List.replicate 8 (controlFrame false)) (upAt 0 s0))).reoffer 0).mgmt.mode =
      waitingFor false 0 := by
  decide

theorem test_meets_ReadRequestsAnswer : Admitted .identify [[0, 1, 1, 0]] s0 ∧
    Admitted .queueStatus [[0, 1, 0x0F, 0, 15], [0, 1, 0x0F, 0, 16]] s0 ∧
    Admitted .dirRead [[0, 1, 0x13, 0, 63], [0, 1, 0x13, 0, 64]] (known 63 .pinned 7 s0) ∧
    (req [0, 1, 0x0F, 0, 15]).op 0 = 15 ∧ (req [0, 1, 0x13, 0, 64]).op 0 = 64 ∧
    s0.edge.directory.get 63 = none ∧ ((known 63 .pinned 7 s0).edge.directory.get 63).isSome = true := by
  unfold Admitted State.admits State.heads
  decide

theorem test_identify : answer (exec .identify (asking [0, 1, 1, 0] s0)) =
    some [0, 1, 1, 0, 0, 13, 0x5A, 0x31, 0, 0x84, 1, 0xFE, 0, 0, 0, 0, 0x12, 0x34, 1] := by decide

theorem test_queue_status : answer (exec .queueStatus (asking [0, 1, 0x0F, 0, 0] (draining s0))) =
    some [0, 1, 0x0F, 0, 0, 10, 2, 0, 0, 0, 0, 1, 0, 1, 0, 0] := by decide

theorem test_dir_read : answer (exec .dirRead (asking [0, 1, 0x13, 0, 63] (seen 5 (known 63 .pinned 7 s0)))) =
    some [0, 1, 0x13, 0, 0, 9, 1, 0x01, 0x01, 7, 1, 0, 0, 0, 5] := by decide

theorem test_meets_ReadItemAnswersValue : Admitted .readItem [[0, 1, 4, 0, 2, 15, 7], [0, 1, 4, 0, 2, 16, 7]] s0 ∧
    (req [0, 1, 4, 0, 2, 15, 7]).item = some (.queueState 15) ∧ (req [0, 1, 4, 0, 2, 16, 7]).item = none := by
  unfold Admitted State.admits State.heads
  decide

/-- R157: the first name past the end of each group, and of its fields. -/
theorem test_names_that_do_not_exist : Item.ofName 0 0 0x11 = none ∧ Item.ofName 1 11 0x0A = none ∧
    Item.ofName 2 0 0x08 = none ∧ Item.ofName 3 0 0x04 = none ∧ Item.ofName 1 7 0x03 = none ∧ Item.ofName 4 0 0x01 = none ∧
    Item.ofName 1 12 0x01 = none ∧ Item.ofName 2 16 0x01 = none ∧ Item.ofName 3 8 0x01 = none ∧ Item.ofName 0 1 0x01 = none := by
  decide

theorem test_read_item : answer (exec .readItem (asking [0, 1, 4, 0, 0, 0, 0x0A] s0)) =
    some [0, 1, 4, 0, 0, 4, 0, 0, 8, 0] := by decide

theorem test_meets_ClaimAndRelease : Admitted .claim [[0, 1, 2, 0]] s0 ∧ Admitted .release [[0, 1, 3, 0]] s0 ∧
    (asking [0, 1, 2, 0] s0).mgmt.owner = some { addr := 0x1234, port := 3, lease := 500 } ∧
    ((asking [0, 1, 2, 0] s0).modMgmt fun m => { m with owner := none }).admits (req [0, 1, 2, 0]) [] .claim ∧
    (withOwner 0x4321 (asking [0, 1, 2, 0] s0)).admits (req [0, 1, 2, 0]) [] .claim ∧
    (withOwner 0x4321 (asking [0, 1, 3, 0] s0)).admits (req [0, 1, 3, 0]) [] .release ∧
    (withOwner 0x4321 (asking [0, 1, 3, 0] s0)).mgmt.owner.map Owner.addr ≠ some 0x1234 := by
  unfold Admitted State.admits State.heads
  decide

/-- R145, R146: a claim of a part without an owner, and a release. -/
theorem test_claim_and_release :
    (after (exec .claim ((asking [0, 1, 2, 0] s0).modMgmt fun m => { m with owner := none }))).map (fun t => t.mgmt.owner) =
      some (some { addr := 0x1234, port := 0, lease := 10000000 }) ∧
    (after (exec .release (asking [0, 1, 3, 0] s0))).map (fun t => t.mgmt.owner) = some none := by decide

theorem test_meets_WriteItemChecksAndWrites :
    Admitted .writeItem [[0, 1, 5, 0, 0, 0, 0x11, 0, 0, 0, 0], [0, 1, 5, 0, 0, 0, 5, 0, 0, 3, 0xE8], [0, 1, 5, 0, 1, 0, 1, 0, 0, 0, 1],
      [0, 1, 5, 0, 1, 8, 1, 0, 0, 0, 1], [0, 1, 5, 0, 1, 8, 1, 0, 0, 0, 0], [0, 1, 5, 0, 0, 0, 8, 0, 0, 0, 0],
      [0, 1, 5, 0, 0, 0, 9, 0, 0, 0, 16], [0, 1, 5, 0, 0, 0, 7, 0, 0, 0, 16]] s0 ∧
    (req [0, 1, 5, 0, 0, 0, 0x11, 0, 0, 0, 0]).item = none ∧
    (req [0, 1, 5, 0, 0, 0, 5, 0, 0, 3, 0xE8]).row = .writeItem ∧ (req [0, 1, 5, 0, 1, 0, 1, 0, 0, 0, 1]).row = .writeEdgeAdminState ∧
    (req [0, 1, 5, 0, 1, 8, 1, 0, 0, 0, 1]).row = .writeTrunkAdminEnabled ∧
    (req [0, 1, 5, 0, 1, 8, 1, 0, 0, 0, 0]).row = .writeTrunkAdminDisabled ∧ (req [0, 1, 5, 0, 0, 0, 8, 0, 0, 0, 0]).row = .writeReserve ∧
    (req [0, 1, 5, 0, 0, 0, 9, 0, 0, 0, 16]).row = .writeCap ∧ (req [0, 1, 5, 0, 0, 0, 7, 0, 0, 0, 16]).row = .writePoolLowWater := by
  unfold Admitted State.admits State.heads
  decide

/-- Log 29: a trunk admin value above 1 stays with the row WRITE_ITEM. -/
theorem test_write_rows : (Item.portAdmin 11).writeRow 2 = .writeItem ∧ (Item.portAdmin 11).writeRow 1 = .writeTrunkAdminEnabled ∧
    (Item.portAdmin 7).writeRow 2 = .writeEdgeAdminState ∧ (Item.queueReserve 15).writeRow 0 = .writeReserve ∧
    (Item.queueCap 15).writeRow 0 = .writeCap ∧ (Item.portLink 0).writeRow 0 = .writeItem := by decide

theorem test_write_item : (after (exec .writeItem (asking [0, 1, 5, 0, 0, 0, 5, 0, 0, 3, 0xE8] s0))).map (fun t => t.mgmt.leaseTime) =
      some 1000 ∧
    answer (exec .writeItem (asking [0, 1, 5, 0, 0, 0, 5, 0, 0, 3, 0xE7] s0)) = some [0, 1, 5, 5, 0, 0] := by decide

theorem test_meets_AdminWrites : s0.edge.enabled.get 7 = true ∧
    (s0.modEdge fun e => { e with enabled := e.enabled.set 7 false }).edge.enabled.get 7 = false ∧
    (returnList 7 2 s0).edge.returns.get 7 = [dataFrame 0x0101] ++ [dataFrame 0x0101] ∧
    (∃ w, ((sending 7 .returnFrame s0).link (EdgeId.port 7)).wire = some w ∧ w.owner = .returnFrame) ∧
    [dataFrame 0x0101].length = min 1 ((returnList 7 2 s0).edge.returns.get 7).length ∧
    (s0.trunk 0).state = .waiting ∧ ((withTrunk 0 .disabled [] s0).trunk 0).state = .disabled ∧
    ((withTrunk 0 .stopping [] s0).trunk 0).state = .stopping ∧ ((withTrunk 0 .holding [] s0).trunk 0).state = .holding ∧
    ((withTrunk 0 .running [] s0).trunk 0).state = .running := by
  refine ⟨by decide, by decide, by decide, ⟨_, rfl, rfl⟩, by decide⟩

/-- R24: the frame on the wire stays, the one behind it is lost. -/
theorem test_edge_disable : (after (exec .writeEdgeAdminState (asking [0, 1, 5, 0, 1, 7, 1, 0, 0, 0, 0]
    (returnList 7 2 (sending 7 .returnFrame s0))))).map
      (fun t => (t.edge.enabled.get 7, (t.edge.returns.get 7).length, t.portCounter 7 .returnLost)) = some (false, 1, 1) := by
  decide

/-- R97, R98. -/
theorem test_trunk_admin :
    (after (exec .writeTrunkAdminEnabled (asking [0, 1, 5, 0, 1, 8, 1, 0, 0, 0, 1] (withTrunk 0 .disabled [] (upAt 8 s0))))).map
      (fun t => (t.trunk 0).state) = some .running ∧
    (after (exec .writeTrunkAdminDisabled (asking [0, 1, 5, 0, 1, 8, 1, 0, 0, 0, 0] (withTrunk 0 .running [bundle 5 false] s0)))).map
      (fun t => (t.trunk 0).state) = some .stopping := by decide

theorem test_meets_PoolItemWrites :
    (QueueId.acct 15 = 15 ∧ false = !((s0.queue 15).state == .off)) ∧
    true = !(((withQueue 15 .active s0).queue 15).state == .off) ∧
    s0.pool.low = false ∧ (poolLow true s0).pool.low = true ∧ 128 ≤ (withFree 128 s0).pool.freeCells ∧
    (withFree 127 s0).pool.freeCells < 128 ∧ (withFree 191 s0).pool.freeCells < 128 + 64 ∧
    128 + 64 ≤ (withFree 192 s0).pool.freeCells := by decide

/-- R64, R65, R70: the responses to a reserve of 257, a reserve at the cap, a cap below 16, and low-water 16. -/
theorem test_pool_writes :
    answer (exec .writeReserve (asking [0, 1, 5, 0, 2, 3, 4, 0, 0, 1, 1] s0)) = some [0, 1, 5, 5, 0, 0] ∧
    answer (exec .writeReserve (asking [0, 1, 5, 0, 2, 3, 4, 0, 0, 1, 0] s0)) = some [0, 1, 5, 0, 0, 0] ∧
    answer (exec .writeCap (asking [0, 1, 5, 0, 2, 3, 5, 0, 0, 0, 15] s0)) = some [0, 1, 5, 5, 0, 0] ∧
    answer (exec .writePoolLowWater (asking [0, 1, 5, 0, 0, 0, 7, 0, 0, 0, 16] s0)) = some [0, 1, 5, 0, 0, 0] := by
  decide

theorem test_meets_CountersCountAndAnswer :
    Admitted .readCounters [[0, 1, 0x18, 0, 1, 11], [0, 1, 0x18, 1, 1, 0], [0, 1, 0x18, 0, 2, 15], [0, 1, 0x18, 1, 4, 8],
      [0, 1, 0x18, 0, 4, 11], [0, 1, 0x18, 1, 5, 0], [0, 1, 0x18, 0, 3, 0], [0, 1, 0x18, 1, 4, 7], [0, 1, 0x18, 0, 1, 12]] s0 ∧
    (req [0, 1, 0x18, 1, 4, 7]).flags.getLsbD 0 = true ∧ (req [0, 1, 0x18, 0, 1, 12]).flags.getLsbD 0 = false := by
  unfold Admitted State.admits State.heads
  decide

/-- R164: the copy of the MGMT group counts the taking itself; the clear leaves zeros. -/
theorem test_read_counters :
    answer (exec .readCounters (asking [0, 1, 0x18, 0, 5, 0] s0)) =
      some ([0, 1, 0x18, 0, 0, 20] ++ [0, 0, 0, 0, 0, 0, 0, 0, 0, 0, 0, 1, 0, 0, 0, 0, 0, 0, 0, 0]) ∧
    (after (exec .readCountersClear (asking [0, 1, 0x18, 1, 5, 0] s0))).map (fun t => t.mgmtCounter .requestsTaken) = some 0 := by
  decide

theorem test_counter_stops : satAdd 0xFFFFFFFE 3 = 0xFFFFFFFF := by decide

theorem test_meets_RestartRequest : Admitted .restart [[0, 1, 0x19, 0]] s0 ∧
    ((asking [0, 1, 0x19, 0] s0).link 0).up = true ∧ ((asking [0, 1, 0x19, 0] s0).link 0).control.length < 8 ∧
    ((withControl 0 (List.replicate 8 (controlFrame false)) s0).link 0).control.length = 8 ∧
    (((asking [0, 1, 0x19, 0] s0).modLink 0 fun l => { l with up := false }).link 0).up = false := by
  unfold Admitted State.admits State.heads
  decide

theorem test_restart : (after (exec .restart (asking [0, 1, 0x19, 0] s0))).map
    (fun t => (t.mgmt.mode, (t.link 0).control.map ControlFrame.restart)) = some (.restartWait, [true]) := by decide

/-! ### Requests of the steering unit, the queue unit, the directory and the event unit -/

/-- Operands of TABLE_WRITE: index, valid, port set 0x80, source 0x0100 mask 0xFF00, tag 7 mask 0xFF, action, queue. -/
def tableWrite (i1 i0 action queue : Byte) : List Byte :=
  [0, 1, 6, 0, i1, i0, 1, 0x80, 0x01, 0x00, 0xFF, 0x00, 7, 0xFF, action, queue]

theorem test_meets_ShadowRequests :
    Admitted .tableWrite [tableWrite 0 255 1 15, tableWrite 1 0 1 15, tableWrite 0 255 2 15, tableWrite 0 255 0 16] s0 ∧
    (req (tableWrite 0 255 1 15)).op16 0 = 255 ∧ (req (tableWrite 1 0 1 15)).op16 0 = 256 ∧
    (req (tableWrite 0 255 2 15)).op 10 = 2 ∧ (req (tableWrite 0 255 0 16)).op 11 = 16 ∧
    Admitted .tableClear [[0, 1, 7, 0]] s0 ∧ Admitted .commit [[0, 1, 0x0A, 0]] s0 ∧
    (syncing 3 s0).steer.syncing = true ∧ s0.steer.syncing = false := by
  unfold Admitted State.admits State.heads
  decide

/-- R48: entry 255 of the shadow bank is written as sent, and marked. -/
theorem test_table_write : (after (exec .tableWrite (asking (tableWrite 0 255 1 15) s0))).map
    (fun t => (t.steer.bankB.get 255, t.steer.marks.get 255)) = some (entry .toQueue, true) := by decide +kernel

/-- R49: the clear blanks and marks every entry of the shadow bank. -/
theorem test_table_clear : (after (exec .tableClear (asking [0, 1, 7, 0] (s0.modSteer fun x => { x with
    bankB := x.bankB.set 3 (entry .toQueue) })))).map (fun t => (t.steer.bankB.get 3, t.steer.marks.get 3)) =
      some (SteerEntry.blank, true) := by decide

/-- R52, R53: a commit answers generation 1 and bank B; during a sync it answers BUSY with the next index. -/
theorem test_commit :
    answer (exec .commit (asking [0, 1, 0x0A, 0] s0)) = some [0, 1, 0x0A, 0, 0, 3, 0, 1, 1] ∧
    answer (exec .commit (asking [0, 1, 0x0A, 0] (syncing 3 s0))) = some [0, 1, 0x0A, 1, 0, 2, 0, 3] := by decide

theorem test_meets_TableReads :
    Admitted .tableRead [[0, 1, 8, 0, 2, 0, 0], [0, 1, 8, 0, 1, 1, 0], [0, 1, 8, 0, 1, 0, 255], [0, 1, 8, 0, 0, 0, 0]] s0 ∧
    (req [0, 1, 8, 0, 1, 1, 0]).op16 1 = 256 ∧ (req [0, 1, 8, 0, 1, 0, 255]).op 0 = 1 ∧
    Admitted .readHits [[0, 1, 9, 0, 1, 0, 1], [0, 1, 9, 0, 0, 255, 0], [0, 1, 9, 0, 0, 0, 57], [0, 1, 9, 0, 0, 201, 56],
      [0, 1, 9, 0, 0, 200, 56], [0, 1, 9, 0, 0, 255, 1]] s0 ∧
    (req [0, 1, 9, 0, 0, 201, 56]).op16 0 = 201 ∧ (req [0, 1, 9, 0, 0, 201, 56]).op 2 = 56 := by
  unfold Admitted State.admits State.heads
  decide

/-- R50: an unmarked shadow entry that the sync has yet to copy is flagged 2. -/
theorem test_table_read : answer (exec .tableRead (asking [0, 1, 8, 0, 1, 0, 4] (syncing 4 s0))) =
    some ([0, 1, 8, 0, 0, 14] ++ [1, 0, 0] ++ List.replicate 10 0 ++ [2]) := by decide

/-- R51: two hit counters. -/
theorem test_read_hits : answer (exec .readHits (asking [0, 1, 9, 0, 0, 2, 2] (s0.modSteer fun x => { x with
    hitsA := x.hitsA.set 3 258 }))) = some [0, 1, 9, 0, 0, 10, 0, 0, 0, 0, 0, 0, 0, 0, 1, 2] := by decide

theorem test_meets_QueueStartAndFlush :
    Admitted .queueStart [[0, 1, 0x0B, 0, 15], [0, 1, 0x0B, 0, 16]] s0 ∧
    Admitted .queueFlush [[0, 1, 0x0D, 0, 0], [0, 1, 0x0D, 0, 16]] (withOpen 0 (batch 0) (withQueue 0 .active s0)) ∧
    (s0.queue 15).state = .off ∧ ((withQueue 15 .active s0).queue 15).state = .active ∧
    ((withQueue 15 .halting s0).queue 15).state = .halting ∧ (s0.queue 0).openBatch = none ∧
    ((withOpen 0 (batch 0) s0).queue 0).openBatch = some (batch 0) := by
  unfold Admitted State.admits State.heads
  decide

theorem test_queue_start : (after (exec .queueStart (asking [0, 1, 0x0B, 0, 15] s0))).map (fun t => (t.queue 15).state) =
    some .active := by decide

/-- R84: the open batch closes with FLUSH; the response carries its member count. -/
theorem test_queue_flush :
    (after (exec .queueFlush (asking [0, 1, 0x0D, 0, 0] (withOpen 0 (batch 0) (withQueue 0 .active s0))))).map
      (fun t => ((t.queue 0).ready.map Batch.closeReason, t.queueCounter 0 .closedFlush, (t.link 0).wire.map fun w => w.frame.payload)) =
      some ([some .flush], 1, some [0, 1, 0x0D, 0, 0, 1, 1]) := by decide

theorem test_meets_QueueHalt : Admitted .queueHalt [[0, 1, 0x0C, 0, 0], [0, 1, 0x0C, 0, 16]] (withQueue 0 .active s0) ∧
    (s0.queue 0).state = .off ∧ ((withQueue 0 .halting s0).queue 0).state = .halting ∧
    ((withQueue 0 .active s0).queue 0).state = .active ∧ ((withOpen 0 (batch 0) s0).queue 0).openBatch = some (batch 0) ∧
    (s0.queue 0).openBatch = none ∧ ((draining s0).queue 0).ready ≠ [] ∧ ((draining s0).queue 0).outstanding ≠ 0 ∧
    (s0.queue 0).ready = [] ∧ (s0.queue 0).outstanding = 0 ∧ (s0.account (QueueId.acct 0)).inUse = 0 := by
  unfold Admitted State.admits State.heads
  decide

/-- R85, R86: with an open batch the queue halts for 1,000 ms; with nothing it goes OFF in the same step. -/
theorem test_queue_halt :
    (after (exec .queueHalt (asking [0, 1, 0x0C, 0, 0] (withOpen 0 (batch 0) (withQueue 0 .active s0))))).map
      (fun t => ((t.queue 0).state, (t.queue 0).drain, t.queueCounter 0 .closedHalt)) = some (.halting, some 1000000, 1) ∧
    (after (exec .queueHalt (asking [0, 1, 0x0C, 0, 0] (withQueue 0 .active s0)))).map
      (fun t => ((t.queue 0).state, (t.queue 0).drain, t.events.raised.map Arrival.events)) =
      some (.off, none, [[{ kind := .queueOff, subject := 0, detail := 1 }]]) := by decide

theorem test_meets_QueuePurge : Admitted .queuePurge [[0, 1, 0x0E, 0, 0], [0, 1, 0x0E, 0, 16]] (draining s0) ∧
    (s0.queue 0).state = .off ∧ ((draining s0).queue 0).state ≠ .off ∧ ((draining s0).queue 0).outstanding ≠ 0 ∧
    [batch 0] = ((draining s0).queue 0).openBatch.toList ++ ((draining s0).queue 0).ready ∧
    ((withReady 0 [batch 0] (withQueue 0 .halting s0)).queue 0).outstanding = 0 ∧
    ((charged 0 1 s0).account (QueueId.acct 0)).inUse ≤ ([batch 0].map Batch.cells).sum ∧
    ((withQueue 0 .active s0).queue 0).state = .active := by
  unfold Admitted State.admits State.heads
  decide

/-- R89: the purge of a HALTING queue's last batch completes the drain. -/
theorem test_queue_purge : (after (exec .queuePurge (asking [0, 1, 0x0E, 0, 0]
    (charged 0 1 (withReady 0 [batch 0] (withQueue 0 .halting s0)))))).map
      (fun t => ((t.queue 0).state, t.queueCounter 0 .framesPurged, (t.account 0).inUse, (t.link 0).wire.map fun w => w.frame.payload)) =
      some (.off, 1, 0, some [0, 1, 0x0E, 0, 0, 2, 0, 1]) := by decide

theorem test_meets_DirectoryRequests :
    Admitted .dirPin [[0, 1, 0x10, 0, 0, 0, 7], [0, 1, 0x10, 0, 0xFF, 0xFF, 7], [0, 1, 0x10, 0, 1, 1, 8], [0, 1, 0x10, 0, 1, 1, 7]] s0 ∧
    Admitted .dirUnpin [[0, 1, 0x11, 0, 1, 1]] s0 ∧ Admitted .dirFlush [[0, 1, 0x12, 0]] s0 ∧
    (req [0, 1, 0x10, 0, 1, 1, 8]).op 2 = 8 ∧ (req [0, 1, 0x10, 0, 1, 1, 7]).op 2 = 7 ∧
    (req [0, 1, 0x10, 0, 1, 1, 7]).op16 0 = 0x0101 ∧ s0.edge.lookup 0x0101 = none ∧ s0.edge.freePosition = some 0 ∧
    (known 63 .pinned 7 s0).edge.lookup 0x0101 = some (63, { addr := 0x0101, port := 7, origin := .pinned, lastSeen := 0 }) ∧
    (known 63 .learned 7 s0).edge.lookup 0x0101 = some (63, { addr := 0x0101, port := 7, origin := .learned, lastSeen := 0 }) ∧
    ((upAt 7 s0).link (EdgeId.port 7)).up = true ∧ (s0.link (EdgeId.port 7)).up = false := by
  unfold Admitted State.admits State.heads
  decide +kernel

theorem test_meets_DirectoryRequests_full :
    (fullDirectory false s0).edge.lookup 0x0101 = none ∧ (fullDirectory false s0).edge.freePosition = none := by decide +kernel

/-- R32 to R34. -/
theorem test_directory_requests :
    answer (exec .dirPin (asking [0, 1, 0x10, 0, 1, 1, 7] s0)) = some [0, 1, 0x10, 0, 0, 1, 0] ∧
    answer (exec .dirUnpin (asking [0, 1, 0x11, 0, 1, 1] (known 63 .pinned 7 s0))) = some [0, 1, 0x11, 0, 0, 1, 1] ∧
    answer (exec .dirUnpin (asking [0, 1, 0x11, 0, 1, 1] (known 63 .pinned 7 (upAt 7 s0)))) = some [0, 1, 0x11, 0, 0, 1, 0] ∧
    answer (exec .dirFlush (asking [0, 1, 0x12, 0] (known 63 .learned 7 s0))) = some [0, 1, 0x12, 0, 0, 1, 1] := by
  decide +kernel

/-- Operands of SUBSCRIBE: slot, address, port, kind set 0x8020 or with bit 0, repeat interval. -/
def subscribe (i a1 a0 p k0 r1 r0 : Byte) : List Byte := [0, 1, 0x14, 0, i, a1, a0, p, 0x80, k0, r1, r0]

theorem test_meets_SubscribeAndUnsubscribe :
    Admitted .subscribe [subscribe 8 1 1 0 0x20 0 0, subscribe 7 1 1 12 0x20 0 0, subscribe 7 0 0 0 0x20 0 0,
      subscribe 7 0xFF 0xFF 0 0x20 0 0, subscribe 7 1 1 0 0x21 0 0, subscribe 7 1 1 0 0x20 0 99, subscribe 7 1 1 0 0x20 0xEA 0x61,
      subscribe 7 1 1 11 0x20 0xEA 0x60, subscribe 0 1 1 0 0x20 0 100] s0 ∧
    (req (subscribe 7 1 1 0 0x20 0xEA 0x61)).op16 6 = 60001 ∧ (req (subscribe 7 1 1 11 0x20 0xEA 0x60)).op16 6 = 60000 ∧
    (req (subscribe 7 1 1 0 0x21 0 0)).op16 4 = 0x8021 ∧ (req (subscribe 7 1 1 12 0x20 0 0)).op 3 = 12 ∧
    Admitted .unsubscribe [[0, 1, 0x15, 0, 7], [0, 1, 0x15, 0, 8]] s0 ∧ (s0.slot 7).inUse = false ∧
    ((withSlot 7 (slot 0 0) s0).slot 7).inUse = true := by
  unfold Admitted State.admits State.heads
  decide

/-- R174, R175. -/
theorem test_subscribe :
    (after (exec .subscribe (asking (subscribe 7 1 1 11 0x20 0xEA 0x60) s0))).map (fun t => t.slot 7) =
      some { inUse := true, addr := 0x0101, port := 11, kindSet := 0x8020, repeatInterval := 60000, noteSeq := 0, owed := 0,
             pending := 0, recurred := 0, repeatDeadline := none } ∧
    answer (exec .subscribe (asking (subscribe 7 1 1 0 0x20 0 99) s0)) = some [0, 1, 0x14, 5, 0, 0] ∧
    (after (exec .unsubscribe (asking [0, 1, 0x15, 0, 7] (withSlot 7 (slot 0 0x20) s0)))).map (fun t => (t.slot 7).inUse) =
      some false := by decide

theorem test_meets_EventAckMovesKinds : Admitted .eventAck [[0, 1, 0x16, 0, 8, 0, 0x20], [0, 1, 0x16, 0, 7, 0, 0x20]] s0 ∧
    (s0.slot 7).inUse = false ∧ ((withSlot 7 (slot 0 0x20) s0).slot 7).inUse = true ∧
    (req []).src = ((withSlot 7 (slot 0 0x20) s0).slot 7).addr ∧ (req []).src ≠ (s0.slot 7).addr := by
  unfold Admitted State.admits State.heads
  decide

/-- R179: a pending kind that had recurred is owed again at its acknowledgement, and its NOTE goes out. -/
theorem test_event_ack : (after (exec .eventAck (asking [0, 1, 0x16, 0, 7, 0, 0x20]
    (withSlot 7 { slot 0 0x20 with recurred := 0x20 } s0)))).map
      (fun t => ((t.slot 7).pending, (t.slot 7).recurred, (t.slot 7).noteSeq, t.mgmtCounter .notesSent)) =
      some (0x20, 0, 13, 1) := by decide

theorem test_meets_ReadEventsAnswer :
    Admitted .readEvents [[0, 1, 0x17, 0, 0], [0, 1, 0x17, 1, 17], [0, 1, 0x17, 0, 16], [0, 1, 0x17, 1, 1]] (records 2 s0) ∧
    (req [0, 1, 0x17, 0, 16]).flags.getLsbD 0 = false ∧ (req [0, 1, 0x17, 1, 1]).flags.getLsbD 0 = true ∧
    (req [0, 1, 0x17, 3, 1]).flags.getLsbD 1 = true := by
  unfold Admitted State.admits State.heads
  decide

/-- R172: one record is taken, the other stays, and flag bit 1 clears the count. -/
theorem test_read_events :
    (after (exec .readEventsTake (asking [0, 1, 0x17, 3, 1] ((records 2 s0).modEvents fun e => { e with lost := 9 })))).map
      (fun t => (t.events.records.length, t.events.lost, (t.link 0).wire.map fun w => w.frame.payload)) =
      some (1, 0, some ([0, 1, 0x17, 0, 0, 14] ++ [0, 0, 0, 9] ++ [1, 0, 0, 0, 0, 0, 0, 0, 0, 0])) ∧
    (after (exec .readEvents (asking [0, 1, 0x17, 0, 1] (records 2 s0)))).map (fun t => t.events.records.length) = some 2 := by
  decide

/-! ### Invariants: a state at work that has them, and a step from it -/

/-- T0 is RUNNING with one bundle of queue 0 waiting for its ACK; slot 7 has a kind pending; the directory holds an entry. -/
def atWork : State :=
  { (withSlot 7 (slot 0 0x20) (known 63 .learned 7 (charged 0 1 (withFree 2047 (upAt 8 s0))))) with
    queues := s0.queues.set 0 { s0.queue 0 with state := .active, outstanding := 1 }
    trunks := s0.trunks.set 0 { s0.trunk 0 with
      state := .running, nextSeq := 6, bundles := [{ bundle 5 false with retryDeadline := some 2000 }] }
    pending := [.timestampTick] }

/-- The same, with 255 free descriptors. -/
def steady : State := atWork.modPool fun p => { p with freeDescriptors := 255 }

theorem test_meets_invariants_step : (after (step steady)).isSome = true := by decide

theorem test_meets_CapacitiesKept : Capacities steady := by
  unfold Capacities
  decide

theorem test_meets_SlotSetsKept : SlotSets steady := by
  unfold SlotSets Slot.setsOk
  decide

theorem test_meets_DirectoryKept : DirectoryOk steady := by
  have h : ∀ i, i ≠ 63 → steady.edge.directory.get i = none := by decide +kernel
  have h63 : steady.edge.directory.get 63 = some { addr := 0x0101, port := 7, origin := .learned, lastSeen := 0 } := by
    decide +kernel
  have only : ∀ i d, steady.edge.directory.get i = some d → i = 63 := by
    intro i d hd
    by_contra hi
    rw [h i hi] at hd
    cases hd
  refine ⟨fun i d hd => ?_, fun i j d e hd he _ => (only i d hd).trans (only j e he).symm, nofun⟩
  cases only i d hd
  rw [h63] at hd
  cases hd
  decide

theorem test_meets_TrunksAndWindowsKept : TrunkInv steady := by
  have hw : ∀ p, (steady.link p).wire = none := by decide
  have hc : ∀ p, (steady.link p).control = [] := by decide
  refine fun _ => ⟨fun p => ⟨fun _ => ⟨hw p, hc p⟩, fun w h => ?_⟩, fun t => ?_⟩
  · rw [hw p] at h
    cases h
  · refine ⟨?_, ?_, ?_⟩
    · fin_cases t
      · exact ⟨rfl, rfl, rfl, rfl⟩
      all_goals exact ⟨rfl, rfl, rfl, rfl, rfl⟩
    · revert t
      unfold Trunk.windowOk
      decide
    · revert t
      unfold Bundle.conditionOk
      decide

theorem test_meets_StorageKept : StorageInv steady := by
  refine ⟨?_, ?_, ?_, ?_⟩
  · unfold CellsOk
    decide
  · unfold DescriptorsOk
    decide
  · unfold PoolOk
    decide
  · intro q
    refine ⟨?_, ?_, ?_, ?_⟩
    · revert q
      decide
    · revert q
      decide
    · revert q
      decide
    · fin_cases q
      · rfl
      all_goals exact ⟨rfl, rfl⟩

end Sys2Proof.Tests
end

section
/-! SUPPORT. One induction principle for invariants of the link layer: a property that the operations of the blocks keep is
kept by every command. The invariants below prove the operations; the way from them to the 53 commands is gone once, here. -/

namespace Sys2Proof.Machine

/-- From `s` to `t` no link, no return list, no trunk unit and no waiting command changes, and neither the request queue
nor the record queue outgrows its capacity. -/
def Undisturbed (s t : State) : Prop :=
  t.pending = s.pending ∧ t.links = s.links ∧ t.edge.returns = s.edge.returns ∧ t.trunks = s.trunks ∧
    (s.mgmt.requests.length ≤ 4 → t.mgmt.requests.length ≤ 4) ∧
    (s.events.records.length ≤ 32 → t.events.records.length ≤ 32)

/-- A property that every operation of a block keeps. -/
structure StepClosed (P : State → Prop) : Prop where
  same : ∀ {s t : State}, P s → Undisturbed s t → P t
  select : ∀ {s : State} (p : Port), P s → P (s.select p)
  place : ∀ {s : State} {p : Port} (c : ControlFrame), P s → s.offer p = .accepted → P (s.place p c)
  queueReturn : ∀ {s : State} {k : EdgeId} (f : Frame), P s → (s.edge.returns.get k).length < 32 →
    P (s.modEdge fun e => { e with returns := e.returns.upd k fun l => l ++ [f] })
  keepReturns : ∀ {s : State} {k : EdgeId} {kept : List Frame}, P s → kept.length ≤ (s.edge.returns.get k).length →
    (s.sendsReturn k = true → kept.head? = (s.edge.returns.get k).head?) →
    P (s.modEdge fun e => { e with returns := e.returns.set k kept })
  linkUp : ∀ {s : State} {p : Port}, P s → (s.link p).up = false →
    P ((s.modLink p fun l => { l with up := true }).unitsLinkUp p)
  linkDown : ∀ {s : State} {p : Port} (receiving : Bool), P s → (s.link p).up = true → P (s.linkGoesDown p receiving)
  controlEnds : ∀ {s : State} {p : Port} {w : OnWire}, P s → (s.link p).wire = some w → w.owner = .control →
    P ((s.modLink p fun l => { l with wire := none }).controlEnds p)
  ownerEnds : ∀ {s : State} {p : Port} {w : OnWire} (first : Bool), P s → (s.link p).wire = some w →
    w.owner ≠ .control → P ((s.modLink p fun l => { l with wire := none }).ownerEnds p w.owner first)
  takeAck : ∀ {s : State} (t : TrunkId) (l : List Byte), P s → P (s.takeAck t l)
  drainExpires : ∀ {s : State} (q : QueueId), P s → P (s.drainExpires q)
  holdExpires : ∀ {s : State} {t : TrunkId}, P s → (s.trunk t).state = .holding → P (s.holdExpires t)
  retryExpires : ∀ {s : State} {t : TrunkId} {seq : Byte} {b : Bundle}, P s → s.retryDue t seq = some b →
    P (s.retryExpires t b)
  trunkEnable : ∀ {s : State} (t : TrunkId), P s → P (s.modTrunk t fun k => k.enable (s.link t.port).up)
  trunkDisable : ∀ {s : State} (t : TrunkId), P s → P (s.modTrunk t Trunk.disable)
  trunkItem : ∀ {s : State} (t : TrunkId) (f : Trunk → Trunk), P s →
    (∀ k, f k = { k with priorityMode := (f k).priorityMode, collector := (f k).collector,
                         retryInterval := (f k).retryInterval, retryLimit := (f k).retryLimit,
                         holdTime := (f k).holdTime }) → P (s.modTrunk t f)
  windowSize : ∀ {s : State} {t : TrunkId} {v : Nat}, P s → (s.trunk t).state = .disabled → 1 ≤ v → v ≤ 16 →
    P (s.modTrunk t fun k => { k with windowSize := v })
  blockRestarts : ∀ {s : State} (b : RestartBlock), P s → P (s.blockRestarts b)

/-! ### What no operation of another block disturbs -/

@[simp] theorem learn_returns (s : State) (k : EdgeId) (a : Half) : (s.learn k a).edge.returns = s.edge.returns := by
  unfold State.learn
  split
  · split <;> [split; (dsimp only; split)] <;> simp [Edge.putEntry, Edge.setDirectory]
  · split <;> [skip; (dsimp only; split)] <;> simp [Edge.putEntry, Edge.setDirectory]
@[simp] theorem removeEntries_returns (e : Edge) (gone : DirEntry → Bool) : (e.removeEntries gone).returns = e.returns := rfl
@[simp] theorem secondPasses_returns (e : Edge) : e.secondPasses.returns = e.returns := rfl
@[simp] theorem putEntry_returns (e : Edge) (i : DirPos) (d : Option DirEntry) : (e.putEntry i d).returns = e.returns := rfl
@[simp] theorem renew_requests (m : Mgmt) (now : Word) (r : Request) : (m.renew now r).requests = m.requests := by
  unfold Mgmt.renew; split <;> [split; skip] <;> rfl
@[simp] theorem loseResponse_requests (s : State) (c : ControlFrame) :
    (s.loseResponse c).mgmt.requests = s.mgmt.requests := by
  unfold State.loseResponse; split <;> simp

/-- R136: a request joins the queue while it holds fewer than 4. -/
theorem requestArrives_requests (s : State) (r : Request) (h : s.mgmt.requests.length ≤ 4) :
    (s.requestArrives r).mgmt.requests.length ≤ 4 := by
  unfold State.requestArrives
  split
  · simp_all [Config.requestQueueMax]
  · dsimp only
    split <;> simpa using h
@[simp] theorem requestArrives_records (s : State) (r : Request) :
    (s.requestArrives r).events.records = s.events.records := by
  unfold State.requestArrives; split <;> [skip; (dsimp only; split)] <;> simp

/-- R170: a record joins the queue while it holds fewer than 32. -/
theorem record_records (s : State) (r : Raise) (h : s.events.records.length ≤ 32) :
    (s.record r).events.records.length ≤ 32 := by
  by_cases full : 32 ≤ s.events.records.length
  · simpa [State.record, Config.recordQueueMax, full] using h
  · simp [State.record, Config.recordQueueMax, full]
    omega
@[simp] theorem actSlots_records (s : State) (ks : List EventKind) : (s.actSlots ks).events.records = s.events.records := rfl

/-! ### Bodies of requests that read -/

@[simp] theorem queueStatusBody_fst (s : State) (r : Request) : (queueStatusBody s r).1 = s := by
  unfold queueStatusBody onQueue; split <;> rfl
@[simp] theorem dirReadBody_fst (s : State) (r : Request) : (dirReadBody s r).1 = s := by
  unfold dirReadBody; split <;> rfl
@[simp] theorem readEventsBody_fst (s : State) (r : Request) : (readEventsBody s r).1 = s := by
  unfold readEventsBody; split <;> rfl
@[simp] theorem tableReadBody_fst (s : State) (r : Request) : (tableReadBody s r).1 = s := by
  unfold tableReadBody; split <;> [skip; split] <;> rfl
@[simp] theorem readHitsBody_fst (s : State) (r : Request) : (readHitsBody s r).1 = s := by
  unfold readHitsBody; dsimp only; split <;> [skip; split <;> [skip; split]] <;> rfl
@[simp] theorem readItemBody_fst (s : State) (r : Request) : (readItemBody s r).1 = s := by
  unfold readItemBody; split <;> rfl
@[simp] theorem readCountersBody_fst (s : State) (r : Request) : (readCountersBody s r).1 = s := by
  unfold readCountersBody; split <;> rfl

/-! ### Requests and writes with a check in front of them -/

theorem onQueue_fst {P : State → Prop} {s : State} (r : Request) {f : QueueId → State × Reply} (each : ∀ q, P (f q).1)
    (h : P s) : P (onQueue s r f).1 := by
  unfold onQueue
  split
  · exact h
  · exact each _

theorem writeIf_fst {P : State → Prop} {s t : State} {inRange : Bool} (h : P s) (written : P t) :
    P (writeIf s inRange t).1 := by
  unfold writeIf
  split
  · exact written
  · exact h

theorem writeIn_fst {P : State → Prop} {s t : State} {inRange allowed : Bool} (h : P s)
    (written : inRange = true → allowed = true → P t) : P (writeIn s inRange allowed t).1 := by
  unfold writeIn
  cases inRange <;> cases allowed
  · exact h
  · exact h
  · exact h
  · exact written rfl rfl

/-! ### From the operations to the commands -/

namespace StepClosed

variable {P : State → Prop} (hP : StepClosed P) {s : State}
include hP

theorem raise (b : Block) (es : List Raise) (h : P s) : P (s.raise b es) := hP.same h (by simp [Undisturbed])
theorem countPort (p : Port) (c : PortCounter) (n : Nat) (h : P s) : P (s.countPort p c n) := hP.same h (by simp [Undisturbed])
theorem countMgmt (c : MgmtCounter) (n : Nat) (h : P s) : P (s.countMgmt c n) := hP.same h (by simp [Undisturbed])
theorem trunkSelect (t : TrunkId) (h : P s) : P (s.trunkSelect t) := by
  simpa using hP.select t.port h
theorem edgeSelect (k : EdgeId) (h : P s) : P (s.edgeSelect k) := by
  simpa using hP.select k.port h

theorem offerNotes (p : Port) (l : List SlotId) (h : P s) : P (s.offerNotes p l) := by
  induction l generalizing s with
  | nil => exact h
  | cons i rest ih =>
    unfold State.offerNotes
    split
    · split
      · rename_i room
        exact ih (hP.place _ (hP.same (t := (s.modSlot i fun x => x.noted s.now).countMgmt .notesSent 1) h (by simp [Undisturbed])) room)
      · exact hP.countMgmt _ _ h
      · exact hP.countMgmt _ _ h
    · exact ih h

theorem opportunity (p : Port) (h : P s) : P (s.opportunity p) := hP.offerNotes p _ h

theorem takeRaise (r : Raise) (h : P s) : P (s.takeRaise r) := by
  have recorded : P ((s.record r).actSlots (s.kindsOf r)) :=
    hP.same h (by simpa [Undisturbed] using record_records s r)
  exact List.foldlRecOn _ _ recorded fun _ hs p _ => hP.opportunity p hs

theorem takeRaises (rs : List Raise) (h : P s) : P (s.takeRaises rs) :=
  List.foldlRecOn _ _ h fun _ hs r _ => hP.takeRaise r hs

theorem takeArrival (b : Block) (h : P s) : P (s.takeArrival b) := by
  unfold State.takeArrival
  split
  · exact h
  · exact hP.takeRaises _ (hP.same h (by simp [Undisturbed]))

theorem takeAllOf (b : Block) (h : P s) : P (s.takeAllOf b) := hP.takeRaises _ (hP.same h (by simp [Undisturbed]))

theorem linkComesUp {p : Port} (h : P s) (down : (s.link p).up = false) : P (s.linkComesUp p) :=
  hP.select p (hP.opportunity p (hP.takeAllOf _ (hP.raise _ _ (hP.linkUp h down))))

/-! Receptions -/

theorem requestArrives (r : Request) (h : P s) : P (s.requestArrives r) :=
  hP.same h (by simpa [Undisturbed] using requestArrives_requests s r)

theorem dispatchMgmt (p : Port) (f : Frame) (h : P s) : P (s.dispatchMgmt p f) := by
  unfold State.dispatchMgmt
  split
  · exact hP.requestArrives _ h
  · exact hP.countPort _ _ _ h

theorem dispatchAck (p : Port) (f : Frame) (h : P s) : P (s.dispatchAck p f) := by
  unfold State.dispatchAck
  split
  · split <;> [skip; split] <;> exact hP.countPort _ _ _ h
  · split <;> [skip; split]
    · exact hP.countPort _ _ _ h
    · exact hP.countPort _ _ _ h
    · exact hP.takeAck _ _ h

theorem offerClosed (q : QueueId) (before : Nat) (h : P s) : P (s.offerClosed q before) := by
  unfold State.offerClosed
  split
  · exact hP.trunkSelect _ h
  · exact h

theorem closeOpen (q : QueueId) (r : CloseReason) (h : P s) : P (s.closeOpen q r) := hP.same h (by simp [Undisturbed])

theorem enrol (q : QueueId) (m : Member) (h : P s) : P (s.enrol q m) := by
  unfold State.enrol
  split
  · dsimp only
    split
    · exact hP.same h (by simp [Undisturbed])
    · exact hP.same h (by simp [Undisturbed])
    · exact hP.offerClosed _ _ (hP.same h (by simp [Undisturbed]))
  · exact hP.same h (by simp [Undisturbed])

theorem steerTo (a : SteerAction) (q : QueueId) (k : EdgeId) (f : Frame) (h : P s) : P (s.steerTo a q k f) := by
  cases a with
  | toQueue => exact hP.enrol _ _ h
  | discard => exact hP.countPort _ _ _ h

theorem classify (k : EdgeId) (f : Frame) (h : P s) : P (s.classify k f) := by
  unfold State.classify
  split
  · exact hP.steerTo _ _ _ _ (hP.same h (by simp [Undisturbed]))
  · exact hP.steerTo _ _ _ _ (hP.countPort _ _ _ h)

theorem returnAdmit (t : TrunkId) (f : Frame) (k : EdgeId) (h : P s) : P (State.returnAdmit t f s k) := by
  unfold State.returnAdmit
  split
  · exact hP.countPort _ _ _ h
  · rename_i room
    split
    · exact hP.countPort _ _ _ h
    · refine hP.edgeSelect _ (hP.queueReturn f (hP.same h (by simp [Undisturbed])) ?_)
      simpa [Config.returnListMax] using room

theorem returnPath (t : TrunkId) (f : Frame) (h : P s) : P (s.returnPath t f) := by
  unfold State.returnPath
  split
  · split
    · exact hP.countPort _ _ _ h
    · exact List.foldlRecOn _ _ h fun _ hs k _ => hP.returnAdmit t f k hs
  · split
    · split
      · exact hP.returnAdmit _ _ _ h
      · exact hP.countPort _ _ _ h
    · exact hP.countPort _ _ _ h

theorem dispatchData (p : Port) (f : Frame) (h : P s) : P (s.dispatchData p f) := by
  unfold State.dispatchData
  split
  · split
    · exact hP.countPort _ _ _ h
    · exact hP.classify _ _ (hP.same h (by simp [Undisturbed]))
  · split <;> [skip; split]
    · exact hP.countPort _ _ _ h
    · exact hP.countPort _ _ _ h
    · exact hP.returnPath _ _ h

theorem arrive (p : Port) (l : List Byte) (h : P s) : P (s.arrive p l) := by
  unfold State.arrive
  split
  · exact hP.countPort _ _ _ h
  · have good := hP.countPort p .receiveGood 1 h
    unfold State.dispatch
    split <;> [skip; split]
    · exact hP.dispatchMgmt _ _ good
    · exact hP.dispatchAck _ _ good
    · exact hP.dispatchData _ _ good

/-! Responses and transmission ends -/

theorem loseResponse (c : ControlFrame) (h : P s) : P (s.loseResponse c) := hP.same h (by simp [Undisturbed])

theorem respond (p : Port) (c : ControlFrame) (h : P s) : P (s.respond p c) := by
  unfold State.respond
  split
  · rename_i room
    exact hP.place c (hP.same (t := s.modMgmt fun m => { m with mode := c.placedMode }) h (by simp [Undisturbed])) room
  · exact hP.loseResponse c h
  · exact hP.same h (by simp [Undisturbed])

theorem reoffer (p : Port) (h : P s) : P (s.reoffer p) := by
  unfold State.reoffer
  split
  · rename_i c _ _ _
    split
    · split
      · rename_i room
        exact hP.place c (hP.same (t := s.modMgmt fun m => { m with mode := c.placedMode }) h (by simp [Undisturbed])) room
      · exact h
      · exact h
    · exact h
  all_goals exact h

theorem offerBoth (p : Port) (first : Bool) (h : P s) : P (s.offerBoth p first) := by
  unfold State.offerBoth
  split
  · exact hP.opportunity _ (hP.reoffer _ h)
  · exact hP.reoffer _ (hP.opportunity _ h)

theorem transmissionEnds {p : Port} {w : OnWire} (first : Bool) (h : P s) (sent : (s.link p).wire = some w) :
    P (s.transmissionEnds p w first) := by
  have counted : P (s.countPort p .framesSent 1) := hP.countPort _ _ _ h
  refine hP.select p ?_
  by_cases control : w.owner = .control
  · rw [control]
    exact hP.offerBoth _ _ (hP.controlEnds counted sent control)
  · exact hP.ownerEnds first counted sent control

/-! The restart -/

theorem restarts (h : P s) : P s.restarts := by
  have started : P s.restartStarts := by
    unfold State.restartStarts
    split
    · exact hP.same h (by simp [Undisturbed])
    · exact h
  have block : ∀ u, P u → ∀ b, P (u.restartBlock b) := by
    intro u hu b
    unfold State.restartBlock
    split
    · exact hP.blockRestarts b (hP.same hu (by simp [Undisturbed]))
    · exact hu
  have selected : ∀ u, P u → ∀ p, P (s.selectAborted u p) := by
    intro u hu p
    unfold State.selectAborted
    split
    · exact hP.select p hu
    · exact hu
  have all : P ((List.finRange 12).foldl (State.selectAborted s) (s.events.nextOrder.foldl State.restartBlock
      (s.restartStarts.modEvents fun e => { e with orders := e.orders.tail }))) :=
    List.foldlRecOn _ _ (List.foldlRecOn _ _ (hP.same started (by simp [Undisturbed])) fun u hu b _ => block u hu b)
      fun u hu p _ => selected u hu p
  unfold State.restarts
  dsimp only
  split
  · exact h
  · split
    · exact hP.takeRaise _ all
    · exact all

/-! Requests -/

theorem takeRequest (row : RequestRow) {body : State → Request → State × Reply}
    (executed : ∀ {u : State} (r : Request), P u → P (body u r).1) (h : P s) : P (s.takeRequest row body) := by
  unfold State.takeRequest
  split
  · exact h
  · rename_i r rest queue
    split
    · have taken : P (s.taken r rest) := hP.same h (by simp [Undisturbed, queue]; omega)
      refine hP.respond _ _ ?_
      unfold State.execute
      split <;> [skip; split]
      · exact taken
      · exact taken
      · exact executed r taken
    · exact h

theorem queueStartBody (r : Request) (h : P s) : P (queueStartBody s r).1 := by
  refine onQueue_fst r (fun q => ?_) h
  split
  · exact hP.same h (by simp [Undisturbed])
  · exact h
  · exact h

theorem queueHaltBody (r : Request) (h : P s) : P (queueHaltBody s r).1 := by
  refine onQueue_fst r (fun q => ?_) h
  split
  · exact h
  · exact hP.offerClosed _ _ (hP.same h (by simp [Undisturbed]))
  · exact h

theorem queueFlushBody (r : Request) (h : P s) : P (queueFlushBody s r).1 := by
  refine onQueue_fst r (fun q => ?_) h
  split
  · exact h
  · exact hP.offerClosed _ _ (hP.closeOpen _ _ h)
  · exact h

theorem purge (q : QueueId) (h : P s) : P (s.purge q) :=
  hP.same h (by simp [Undisturbed, State.purge])

theorem queuePurgeBody (r : Request) (h : P s) : P (queuePurgeBody s r).1 := by
  refine onQueue_fst r (fun q => ?_) h
  split
  · exact h
  · exact hP.purge q h
  · exact hP.purge q h

theorem dirPinBody (r : Request) (h : P s) : P (dirPinBody s r).1 := by
  unfold Machine.dirPinBody
  split
  · exact h
  · split
    · exact h
    · split
      · exact hP.same h (by simp [Undisturbed])
      · split
        · exact hP.same h (by simp [Undisturbed])
        · exact h

theorem dirUnpinBody (r : Request) (h : P s) : P (dirUnpinBody s r).1 := by
  unfold Machine.dirUnpinBody
  split
  · exact h
  · split
    · exact h
    · split <;> exact hP.same h (by simp [Undisturbed])

theorem subscribeBody (r : Request) (h : P s) : P (subscribeBody s r).1 := by
  unfold Machine.subscribeBody
  split
  · exact h
  · split
    · exact h
    · split <;> [skip; split <;> [skip; split]]
      · exact h
      · exact h
      · exact h
      · exact hP.same h (by simp [Undisturbed])

theorem unsubscribeBody (r : Request) (h : P s) : P (unsubscribeBody s r).1 := by
  unfold Machine.unsubscribeBody
  split
  · exact h
  · dsimp only
    split
    · exact hP.same h (by simp [Undisturbed])
    · exact h

theorem eventAckBody (r : Request) (h : P s) : P (eventAckBody s r).1 := by
  unfold Machine.eventAckBody
  split
  · exact h
  · split
    · exact h
    · dsimp only
      split
      · exact hP.same h (by simp [Undisturbed])
      · exact hP.opportunity _ (hP.same h (by simp [Undisturbed]))

theorem readEventsTakeBody (r : Request) (h : P s) : P (readEventsTakeBody s r).1 := by
  unfold Machine.readEventsTakeBody
  split
  · exact hP.same h (by simp [Undisturbed]; omega)
  · exact h

theorem tableWriteBody (r : Request) (h : P s) : P (tableWriteBody s r).1 := by
  unfold Machine.tableWriteBody
  split
  · exact h
  · split
    · exact h
    · split
      · exact h
      · exact hP.same h (by simp [Undisturbed])

theorem commitBody (r : Request) (h : P s) : P (commitBody s r).1 := by
  unfold Machine.commitBody
  split
  · exact h
  · exact hP.same h (by simp [Undisturbed])

theorem readCountersClearBody (r : Request) (h : P s) : P (readCountersClearBody s r).1 := by
  unfold Machine.readCountersClearBody
  split
  · exact h
  · exact hP.same h (by simp [Undisturbed])

theorem claimBody (r : Request) (h : P s) : P (claimBody s r).1 := by
  unfold Machine.claimBody
  split
  · exact hP.same h (by simp [Undisturbed])
  · split <;> exact h

theorem releaseBody (r : Request) (h : P s) : P (releaseBody s r).1 := by
  unfold Machine.releaseBody
  split
  · exact hP.same h (by simp [Undisturbed])
  · exact h

/-! Writes of items -/

theorem loseReturns {k : EdgeId} {kept : List Frame} (gone : List Frame) (h : P s)
    (shorter : kept.length ≤ (s.edge.returns.get k).length)
    (head : s.sendsReturn k = true → kept.head? = (s.edge.returns.get k).head?) : P (s.loseReturns k kept gone) :=
  hP.same (hP.keepReturns h shorter head) (by simp [Undisturbed, State.loseReturns, State.dropReturns])

theorem writeEdgeAdmin (k : EdgeId) (v : Nat) (h : P s) : P (s.writeEdgeAdmin k v).1 := by
  have disabled : P (s.modEdge fun e => { e with enabled := e.enabled.set k false }) := hP.same h (by simp [Undisturbed])
  unfold State.writeEdgeAdmin
  split <;> [skip; split <;> [skip; split]]
  · exact h
  · exact hP.same h (by simp [Undisturbed])
  · unfold State.edgeDisable
    dsimp only
    split
    · cases list : s.edge.returns.get k <;> exact hP.loseReturns _ disabled (by simp [list]) fun _ => by simp [list]
    · rename_i idle
      exact hP.loseReturns _ disabled (Nat.zero_le _) fun sends => absurd sends idle
  · exact h

theorem writeTrunkAdmin (t : TrunkId) (v : Nat) (h : P s) : P (s.writeTrunkAdmin t v).1 := by
  unfold State.writeTrunkAdmin
  split <;> [skip; split]
  · unfold State.trunkEnable
    dsimp only
    split
    · exact hP.trunkSelect t (hP.trunkEnable t h)
    · exact hP.trunkEnable t h
  · exact hP.trunkDisable t h
  · exact h

theorem writeReserve (a : AcctId) (n : Nat) (blocked : Bool) (h : P s) : P (s.writeReserve a n blocked).1 := by
  unfold State.writeReserve
  split
  · exact hP.same h (by simp [Undisturbed])
  · exact h

theorem writeCap (a : AcctId) (n : Nat) (blocked : Bool) (h : P s) : P (s.writeCap a n blocked).1 := by
  unfold State.writeCap
  split
  · exact hP.same h (by simp [Undisturbed])
  · exact h

theorem writeLowWater (v : Nat) (h : P s) : P (s.writeLowWater v).1 := by
  unfold State.writeLowWater
  split
  · exact h
  · exact hP.same h (by simp [Undisturbed])

theorem writeItem (i : Item) (v : Nat) (h : P s) : P (s.writeItem i v).1 := by
  cases i with
  | ownAddress | lastResetCause | freeCells | freeDescriptors | generation | activeBank | syncState | timestamp
  | recordsLost | portLink | trunkState | queueState => exact h
  | defaultAction | defaultQueue | queuePriority =>
    dsimp only [State.writeItem]
    split
    · exact h
    · exact hP.same h (by simp [Undisturbed])
  | leaseTime | directoryAge | queueDrainLimit | threshold | frameLimit | ageLimit => exact writeIf_fst h (hP.same h (by simp [Undisturbed]))
  | poolLowWater => exact hP.writeLowWater v h
  | retReserve | queueReserve => exact hP.writeReserve _ v _ h
  | retCap | queueCap => exact hP.writeCap _ v _ h
  | portAdmin p =>
    dsimp only [State.writeItem]
    split
    · exact hP.writeEdgeAdmin _ v h
    · exact hP.writeTrunkAdmin _ v h
  | arbitrationMode t | collector t | retryInterval t | retryLimit t | holdTime t =>
    exact writeIf_fst h (hP.trunkItem t _ h fun _ => rfl)
  | windowSize t =>
    refine writeIn_fst h fun inRange off => ?_
    simp only [Bool.and_eq_true, decide_eq_true_eq] at inRange
    exact hP.windowSize h (by simpa using off) inRange.1 inRange.2
  | queueTrunk | queueProfile =>
    dsimp only [State.writeItem]
    split
    · exact h
    · exact writeIn_fst h fun _ _ => hP.same h (by simp [Undisturbed])

theorem writeItemBody (r : Request) (h : P s) : P (writeItemBody s r).1 := by
  unfold Machine.writeItemBody
  split
  · exact h
  · exact hP.writeItem _ _ h

theorem tableClearBody (r : Request) (h : P s) : P (tableClearBody s r).1 := by
  unfold Machine.tableClearBody
  exact hP.same h (by simp [Undisturbed])

theorem dirFlushBody (r : Request) (h : P s) : P (dirFlushBody s r).1 := by
  unfold Machine.dirFlushBody
  exact hP.same h (by simp [Undisturbed])

/-! Expiries and the part's own steps -/

theorem syncStep (h : P s) : ∃ u, exec .syncStep s = live s u ∧ P u := by
  refine ⟨_, rfl, ?_⟩
  split
  · split
    · unfold State.syncs
      dsimp only
      split <;> exact hP.same h (by simp [Undisturbed])
    · exact h
  · exact h

theorem retryDeadlineExpiry (p : Port) (seq : Byte) (h : P s) :
    ∃ u, exec (.retryDeadlineExpiry p seq) s = live s u ∧ P u := by
  refine ⟨_, rfl, ?_⟩
  split
  · exact h
  · split
    · exact h
    · rename_i due
      exact hP.retryExpires h due

theorem responseWaitExpiry (h : P s) : ∃ u, exec .responseWaitExpiry s = live s u ∧ P u := by
  refine ⟨_, rfl, ?_⟩
  split
  · split
    · exact hP.loseResponse _ h
    · exact h
  all_goals exact h

theorem leaseDeadlineExpiry (h : P s) : ∃ u, exec .leaseDeadlineExpiry s = live s u ∧ P u := by
  refine ⟨_, rfl, ?_⟩
  split
  · exact h
  · split
    · unfold State.leaseExpires
      exact hP.same h (by simp [Undisturbed])
    · exact h

/-- Every command but the two of RESET_N acts through `live`, and leaves a state with the property. -/
theorem exec (c : Instr) (reset : ∀ straps, c ≠ .hardReset straps) (low : c ≠ .resetNLow) (h : P s) :
    ∃ u, Machine.exec c s = live s u ∧ P u := by
  cases c with
  | hardReset straps => exact absurd rfl (reset straps)
  | resetNLow => exact absurd rfl low
  | linkUp p =>
    refine ⟨_, rfl, ?_⟩
    split
    · exact h
    · rename_i down
      exact hP.linkComesUp h (by simpa using down)
  | linkDown p receiving =>
    refine ⟨_, rfl, ?_⟩
    split
    · rename_i up
      exact hP.linkDown receiving h up
    · exact h
  | receptionAborted p =>
    refine ⟨_, rfl, ?_⟩
    split
    · exact hP.countPort _ _ _ h
    · exact h
  | frameArrival p l =>
    refine ⟨_, rfl, ?_⟩
    split
    · exact hP.arrive p l h
    · exact h
  | transmissionEnd p first =>
    refine ⟨_, rfl, ?_⟩
    split
    · exact h
    · rename_i sent
      exact hP.transmissionEnds first h sent
  | directorySecondExpiry =>
    refine ⟨_, rfl, ?_⟩
    split
    · exact hP.same h (by simp [Undisturbed])
    · exact h
  | ageDeadlineExpiry q =>
    refine ⟨_, rfl, ?_⟩
    split
    · exact hP.offerClosed _ _ (hP.closeOpen _ _ h)
    · exact h
  | drainDeadlineExpiry q =>
    refine ⟨_, rfl, ?_⟩
    split
    · exact hP.drainExpires q h
    · exact h
  | holdDeadlineExpiry p =>
    refine ⟨_, rfl, ?_⟩
    split
    · exact h
    · split
      · rename_i due
        exact hP.holdExpires h due.1
      · exact h
  | retryDeadlineExpiry p seq => exact hP.retryDeadlineExpiry p seq h
  | leaseDeadlineExpiry => exact hP.leaseDeadlineExpiry h
  | responseWaitExpiry => exact hP.responseWaitExpiry h
  | repeatDeadlineExpiry i =>
    refine ⟨_, rfl, ?_⟩
    split
    · exact hP.opportunity _ (hP.same h (by simp [Undisturbed]))
    · exact h
  | syncStep => exact hP.syncStep h
  | eventRaise b => exact ⟨_, rfl, hP.takeArrival b h⟩
  | restartBegin => exact ⟨_, rfl, hP.restarts h⟩
  | timestampTick => exact ⟨_, rfl, hP.same h (by simp [Undisturbed])⟩
  | identify | restart | unknownRequestKind => exact ⟨_, rfl, hP.takeRequest _ (fun _ h => h) h⟩
  | readItem => exact ⟨_, rfl, hP.takeRequest _ (fun _ h => by simpa using h) h⟩
  | tableRead => exact ⟨_, rfl, hP.takeRequest _ (fun _ h => by simpa using h) h⟩
  | readHits => exact ⟨_, rfl, hP.takeRequest _ (fun _ h => by simpa using h) h⟩
  | queueStatus => exact ⟨_, rfl, hP.takeRequest _ (fun _ h => by simpa using h) h⟩
  | dirRead => exact ⟨_, rfl, hP.takeRequest _ (fun _ h => by simpa using h) h⟩
  | readEvents => exact ⟨_, rfl, hP.takeRequest _ (fun _ h => by simpa using h) h⟩
  | readCounters => exact ⟨_, rfl, hP.takeRequest _ (fun _ h => by simpa using h) h⟩
  | claim => exact ⟨_, rfl, hP.takeRequest _ hP.claimBody h⟩
  | release => exact ⟨_, rfl, hP.takeRequest _ hP.releaseBody h⟩
  | writeItem | writeEdgeAdminState | writeTrunkAdminEnabled | writeTrunkAdminDisabled | writeReserve | writeCap
  | writePoolLowWater => exact ⟨_, rfl, hP.takeRequest _ hP.writeItemBody h⟩
  | tableWrite => exact ⟨_, rfl, hP.takeRequest _ hP.tableWriteBody h⟩
  | tableClear => exact ⟨_, rfl, hP.takeRequest _ hP.tableClearBody h⟩
  | commit => exact ⟨_, rfl, hP.takeRequest _ hP.commitBody h⟩
  | queueStart => exact ⟨_, rfl, hP.takeRequest _ hP.queueStartBody h⟩
  | queueHalt => exact ⟨_, rfl, hP.takeRequest _ hP.queueHaltBody h⟩
  | queueFlush => exact ⟨_, rfl, hP.takeRequest _ hP.queueFlushBody h⟩
  | queuePurge => exact ⟨_, rfl, hP.takeRequest _ hP.queuePurgeBody h⟩
  | dirPin => exact ⟨_, rfl, hP.takeRequest _ hP.dirPinBody h⟩
  | dirUnpin => exact ⟨_, rfl, hP.takeRequest _ hP.dirUnpinBody h⟩
  | dirFlush => exact ⟨_, rfl, hP.takeRequest _ hP.dirFlushBody h⟩
  | subscribe => exact ⟨_, rfl, hP.takeRequest _ hP.subscribeBody h⟩
  | unsubscribe => exact ⟨_, rfl, hP.takeRequest _ hP.unsubscribeBody h⟩
  | eventAck => exact ⟨_, rfl, hP.takeRequest _ hP.eventAckBody h⟩
  | readEventsTake => exact ⟨_, rfl, hP.takeRequest _ hP.readEventsTakeBody h⟩
  | readCountersClear => exact ⟨_, rfl, hP.takeRequest _ hP.readCountersClearBody h⟩

end StepClosed

end Sys2Proof.Machine
end


section
/-! SUPPORT. The invariants that need no more than the principle: the waiting commands stay, and the capacities hold. -/

namespace Sys2Proof.Machine

/-! ### The waiting commands -/

/-- No operation of a block touches the commands that wait. -/
theorem pending_closed (l : List Instr) : StepClosed fun s => s.pending = l where
  same h u := u.1.trans h
  select p h := by simpa using h
  place c h _ := by simpa using h
  queueReturn f h _ := by simpa using h
  keepReturns h _ _ := by simpa using h
  linkUp h _ := by simpa using h
  linkDown r h _ := by simpa [State.linkGoesDown, apply_ite State.pending] using h
  controlEnds h _ _ := by simpa using h
  ownerEnds f h _ _ := by simpa using h
  takeAck t l h := by simpa using h
  drainExpires q h := by simpa using h
  holdExpires h _ := by simpa using h
  retryExpires h _ := by simpa [State.retryExpires, apply_ite State.pending] using h
  trunkEnable t h := by simpa using h
  trunkDisable t h := by simpa using h
  trunkItem t f h _ := by simpa using h
  windowSize h _ _ _ := by simpa using h
  blockRestarts b h := (blockRestarts_keeps _ b).1.trans h

theorem live_eq_next {s u : State} (h : u.pending = s.pending) : ∃ t, live s u = .next t ∧ t.pending = s.pending := by
  cases low : s.resetLow
  · exact ⟨u, live_of_high low u, h⟩
  · exact ⟨s, live_of_low low u, rfl⟩

/-- Settles O2: every command but the two of RESET_N answers through `live`, and the waiting commands are closed under the
blocks' operations. -/
theorem everyCommandAnswersNext : Obligations.EveryCommandAnswersNext := by
  intro c s
  by_cases reset : ∃ straps, c = .hardReset straps
  · obtain ⟨straps, rfl⟩ := reset
    exact ⟨_, rfl, rfl⟩
  · by_cases low : c = .resetNLow
    · subst low
      exact ⟨_, rfl, rfl⟩
    · obtain ⟨u, hexec, hu⟩ := (pending_closed s.pending).exec c (fun straps e => reset ⟨straps, e⟩) low rfl
      rw [hexec]
      exact live_eq_next hu

/-! ### The capacities -/

/-- R136: a state whose lists are no longer than those of a state within the capacities is within them. -/
theorem Capacities.of_le {s t : State} (h : Capacities s)
    (requests : s.mgmt.requests.length ≤ 4 → t.mgmt.requests.length ≤ 4)
    (control : ∀ p, (s.link p).control.length ≤ 8 → (t.link p).control.length ≤ 8)
    (returns : ∀ k, (s.edge.returns.get k).length ≤ 32 → (t.edge.returns.get k).length ≤ 32)
    (records : s.events.records.length ≤ 32 → t.events.records.length ≤ 32) : Capacities t := by
  obtain ⟨hq, hc, hr, he⟩ := h
  exact ⟨requests hq, fun p => control p (hc p), fun k => returns k (hr k), records he⟩

/-! Which steps of the windows, the queues and the link reports leave the records and the control lists alone -/

@[simp] theorem retire_fst_records (s : State) (t : TrunkId) (b : Bundle) :
    (s.retire t b).1.events.records = s.events.records := by
  obtain ⟨_, -, e⟩ := retire_fst_events s t b
  rw [e]
@[simp] theorem abandon_fst_records (s : State) (t : TrunkId) (b : Bundle) :
    (s.abandon t b).1.events.records = s.events.records := by
  obtain ⟨_, -, e⟩ := abandon_fst_events s t b
  rw [e]
@[simp] theorem ackOne_fst_records (t : TrunkId) (x : State × List Raise) (seq : Byte) :
    (State.ackOne t x seq).1.events.records = x.1.events.records := by
  unfold State.ackOne; split <;> [skip; split <;> [skip; split]] <;> simp
@[simp] theorem takeAck_records (s : State) (t : TrunkId) (l : List Byte) :
    (s.takeAck t l).events.records = s.events.records := by
  unfold State.takeAck
  split
  · simp
  · dsimp only
    split <;> simp [foldl_ackOne (fun u => u.events.records) t (fun _ _ => by simp)]
@[simp] theorem takeAck_control (s : State) (t : TrunkId) (l : List Byte) (p : Port) :
    ((s.takeAck t l).link p).control = (s.link p).control := by
  unfold State.takeAck
  split
  · simp
  · dsimp only
    split <;> simp [foldl_ackOne (fun u => u.link p) t (fun _ _ => by simp)]
@[simp] theorem holdExpires_records (s : State) (t : TrunkId) : (s.holdExpires t).events.records = s.events.records := by
  simp [State.holdExpires, State.abandonAll, foldl_abandon (fun u => u.events.records) t (fun _ _ => by simp)]
@[simp] theorem drainExpires_records (s : State) (q : QueueId) : (s.drainExpires q).events.records = s.events.records := by
  unfold State.drainExpires; dsimp only; split <;> split <;> simp
@[simp] theorem abort_control (s : State) (p q : Port) : ((s.abort p).link q).control = (s.link q).control := by
  by_cases e : q = p
  · subst e; simp
  · simp [e]
@[simp] theorem drainExpires_control (s : State) (q : QueueId) (p : Port) :
    ((s.drainExpires q).link p).control = (s.link p).control := by
  unfold State.drainExpires; dsimp only; split <;> split <;> simp
@[simp] theorem retryExpires_records (s : State) (t : TrunkId) (b : Bundle) :
    (s.retryExpires t b).events.records = s.events.records := by
  unfold State.retryExpires; split <;> simp
@[simp] theorem retryExpires_control (s : State) (t : TrunkId) (b : Bundle) (p : Port) :
    ((s.retryExpires t b).link p).control = (s.link p).control := by
  unfold State.retryExpires; split <;> simp
@[simp] theorem retryExpires_mgmt (s : State) (t : TrunkId) (b : Bundle) : (s.retryExpires t b).mgmt = s.mgmt := by
  unfold State.retryExpires; split <;> simp
@[simp] theorem retryExpires_edge (s : State) (t : TrunkId) (b : Bundle) : (s.retryExpires t b).edge = s.edge := by
  unfold State.retryExpires; split <;> simp
@[simp] theorem windowAbort_records (s : State) (t : TrunkId) (w : Option OnWire) :
    (s.windowAbort t w).events.records = s.events.records := by
  unfold State.windowAbort; (repeat' split) <;> simp
@[simp] theorem trunkLinkDown_records (s : State) (t : TrunkId) :
    (s.trunkLinkDown t).events.records = s.events.records := by
  unfold State.trunkLinkDown; dsimp only; (repeat' split) <;> simp
@[simp] theorem unitsLinkDown_records (s : State) (p : Port) (w : Option OnWire) :
    (s.unitsLinkDown p w).events.records = s.events.records := by
  unfold State.unitsLinkDown; split <;> simp [State.edgeLinkDown, State.loseReturns, State.dropReturns]
@[simp] theorem mgmtLinkDown_requests (s : State) (p : Port) (l : List ControlFrame) :
    (s.mgmtLinkDown p l).mgmt.requests = s.mgmt.requests := by
  unfold State.mgmtLinkDown; (repeat' split) <;> simp
@[simp] theorem controlEnds_requests (s : State) (p : Port) : (s.controlEnds p).mgmt.requests = s.mgmt.requests := by
  unfold State.controlEnds; dsimp only; (repeat' split) <;> simp
@[simp] theorem bundleEnds_records (s : State) (t : TrunkId) (seq : Byte) :
    (s.bundleEnds t seq).events.records = s.events.records := by
  unfold State.bundleEnds; (repeat' split) <;> simp
@[simp] theorem returnEnds_records (s : State) (k : EdgeId) : (s.returnEnds k).events.records = s.events.records := by
  simp [State.returnEnds, State.dropReturns]
@[simp] theorem releaseBatches_records (s : State) (l : List Batch) :
    (s.releaseBatches l).events.records = s.events.records := by
  rw [releaseBatches_events]

/-- R14: the head leaves the control list of the port, and no other list changes. -/
theorem controlEnds_link (s : State) (p q : Port) : (s.controlEnds p).link q =
    if q = p then { s.link p with control := (s.link p).control.tail } else s.link q := by
  by_cases e : q = p
  · subst e
    rw [if_pos rfl]
    unfold State.controlEnds; dsimp only; (repeat' split) <;> simp
  · rw [if_neg e]
    unfold State.controlEnds; dsimp only; (repeat' split) <;> simp [e]

/-- R25: link DOWN at an edge port empties its return list; no other list changes. -/
theorem unitsLinkDown_returns (s : State) (p : Port) (w : Option OnWire) (k : EdgeId) :
    (s.unitsLinkDown p w).edge.returns.get k = if k.port = p then [] else s.edge.returns.get k := by
  rcases port_cases p with ⟨j, rfl⟩ | ⟨t, rfl⟩
  · simp only [State.unitsLinkDown, side_edge, State.edgeLinkDown, loseReturns_edge, modEdge_edge, removeEntries_returns,
      Tab.get_set, edgePort_inj]
  · simp [State.unitsLinkDown, edgePort_ne_trunkPort]

/-- R3: the link of a port that goes DOWN. -/
theorem linkGoesDown_link (s : State) (p q : Port) (r : Bool) : (s.linkGoesDown p r).link q =
    if q = p then { s.link p with up := false, wire := none, control := [] } else s.link q := by
  by_cases e : q = p
  · subst e; cases r <;> simp [State.linkGoesDown]
  · cases r <;> simp [State.linkGoesDown, e]

/-- R154: no block's restart makes a list longer. -/
theorem capacities_blockRestarts {s : State} (b : RestartBlock) (h : Capacities s) : Capacities (s.blockRestarts b) := by
  cases b with
  | linkLayer p =>
    have emptied : Capacities (s.modLink p Link.restarted) := by
      refine h.of_le (by simp) (fun q hq => ?_) (by simp) (by simp)
      by_cases e : q = p
      · subst e
        simp [Link.restarted]
      · simpa [e] using hq
    dsimp only [State.blockRestarts, State.linkLayerRestarts]
    split
    · exact emptied.of_le (by simp) (by simp) (by simp) (by simp)
    · exact emptied
  | edgeUnit =>
    refine h.of_le ?_ (fun p hp => ?_) (fun k hk => ?_) ?_ <;> simp [State.blockRestarts, State.edgeUnitRestarts]
    · simpa [State.link, Link.aborted] using hp
    · simp [Edge.restarted]
  | queueUnit =>
    simp only [State.blockRestarts, State.queueUnitRestarts]
    rw [foldl_windowEmptied]
    refine h.of_le (by simp) (fun p hp => ?_) (by simp) (by simp)
    simpa [State.link, Link.aborted] using hp
  | trunkUnit t =>
    refine h.of_le ?_ (fun p hp => ?_) ?_ ?_ <;> simp [State.blockRestarts, State.trunkUnitRestarts, State.link]
    by_cases e : p = t.port
    · subst e
      simpa [State.link, Link.aborted] using hp
    · simpa [State.link, e] using hp
  | managementUnit | eventUnit | steeringUnit | cellPool | counterBlock =>
    refine h.of_le ?_ ?_ ?_ ?_ <;> simp [State.blockRestarts, Mgmt.restarted, EventUnit.restarted]

theorem capacities_closed : StepClosed Capacities where
  same h u := by
    obtain ⟨-, links, returns, -, requests, records⟩ := u
    exact h.of_le requests (by simp [State.link, links]) (by simp [returns]) records
  select p h := h.of_le (by simp) (by simp) (by simp) (by simp)
  place {s p} c h room := by
    refine h.of_le (by simp) (fun q hq => ?_) (by simp) (by simp)
    by_cases e : q = p
    · subst e
      have := (room_of_offer_accepted s room).2
      simp [State.place]
      omega
    · simpa [e] using hq
  queueReturn {s k} f h room := by
    refine h.of_le (by simp) (by simp) (fun j hj => ?_) (by simp)
    by_cases e : j = k
    · subst e
      simpa using room
    · simpa [e] using hj
  keepReturns {s k kept} h shorter _ := by
    refine h.of_le (by simp) (by simp) (fun j hj => ?_) (by simp)
    by_cases e : j = k
    · subst e
      simpa using shorter.trans hj
    · simpa [e] using hj
  linkUp {s p} h _ := by
    refine h.of_le (by simp) (fun q hq => ?_) (by simp) (by simp)
    by_cases e : q = p
    · subst e
      simpa using hq
    · simpa [e] using hq
  linkDown {s p} r h _ := by
    refine h.of_le ?_ (fun q hq => ?_) (fun k hk => ?_) ?_
    · cases r <;> simp [State.linkGoesDown]
    · rw [linkGoesDown_link]
      split <;> simp [hq]
    · simp only [State.linkGoesDown, mgmtLinkDown_edge, unitsLinkDown_returns]
      cases r <;> split <;> simp [hk]
    · cases r <;> simp [State.linkGoesDown]
  controlEnds {s p w} h _ _ := by
    refine h.of_le (by simp) (fun q hq => ?_) (by simp) (by simp)
    rw [controlEnds_link]
    split
    · rename_i e
      subst e
      simp
      omega
    · rename_i e
      simpa [e] using hq
  ownerEnds {s p w} f h _ other := by
    have idle : Capacities (s.modLink p fun l => { l with wire := none }) := by
      refine h.of_le (by simp) (fun q hq => ?_) (by simp) (by simp)
      by_cases e : q = p
      · subst e
        simpa using hq
      · simpa [e] using hq
    unfold State.ownerEnds
    split
    · contradiction
    · split
      · rename_i k _
        refine idle.of_le (by simp) (by simp) (fun j hj => ?_) (by simp)
        by_cases e : j = k
        · subst e
          simp [State.returnEnds] at hj ⊢
          omega
        · simpa [State.returnEnds, e] using hj
      · exact idle
    · split
      · exact idle
      · exact idle.of_le (by simp) (by simp) (by simp) (by simp)
  takeAck t l h := h.of_le (by simp) (by simp) (by simp) (by simp)
  drainExpires q h := h.of_le (by simp) (by simp) (by simp) (by simp)
  holdExpires h _ := h.of_le (by simp) (by simp) (by simp) (by simp)
  retryExpires h _ := h.of_le (by simp) (by simp) (by simp) (by simp)
  trunkEnable t h := h.of_le (by simp) (by simp) (by simp) (by simp)
  trunkDisable t h := h.of_le (by simp) (by simp) (by simp) (by simp)
  trunkItem t f h _ := h.of_le (by simp) (by simp) (by simp) (by simp)
  windowSize h _ _ _ := h.of_le (by simp) (by simp) (by simp) (by simp)
  blockRestarts b h := capacities_blockRestarts b h

theorem capacities_afterHardReset (straps : BitVec 6) (l : List Instr) : Capacities (State.afterHardReset straps l) := by
  refine ⟨by simp [State.afterHardReset, Mgmt.reset], fun p => ?_, fun k => ?_,
    by simp [State.afterHardReset, EventUnit.reset]⟩
  · simp [State.link, State.afterHardReset, Link.reset]
  · simp [State.afterHardReset, Edge.reset]

theorem exec_capacities (c : Instr) (s t : State) (h : Capacities s) (ht : exec c s = .next t) : Capacities t := by
  by_cases reset : ∃ straps, c = .hardReset straps
  · obtain ⟨straps, rfl⟩ := reset
    cases ht
    exact (capacities_afterHardReset straps s.pending).of_le (by simp) (by simp) (by simp) (by simp)
  · by_cases low : c = .resetNLow
    · subst low
      cases ht
      exact h.of_le (by simp) (by simp [State.link]) (by simp) (by simp)
    · obtain ⟨u, hexec, hu⟩ := capacities_closed.exec c (fun straps e => reset ⟨straps, e⟩) low h
      rw [hexec, live] at ht
      cases ht
      split
      · exact h
      · exact hu

/-- Settles O55: the capacities are closed under the blocks' operations, and a hard reset empties every list. -/
theorem capacitiesKept : Obligations.CapacitiesKept :=
  fun _ _ h ht => kept_by_step (P := Capacities) (fun _ _ h => h) exec_capacities h ht

end Sys2Proof.Machine
end


section
/-! SUPPORT. The invariant of transmitters and windows, port by port: what it says of a link and a return list, and of a
link and a trunk unit; and what the window's operations do to it. -/

namespace Sys2Proof.Machine

/-! ### One port -/

/-- The bundle with this trunk sequence is on the wire. -/
def Link.sends (l : Link) (seq : Byte) : Bool :=
  match l.wire with
  | some w => w.owner == .bundle seq
  | none => false

/-- R7, R8: the link as a transmission starts. -/
def Link.started (l : Link) (f : Frame) (o : WireOwner) : Link :=
  { l with wire := some { frame := { f with seq := l.txCount }, owner := o }, txCount := l.txCount + 1 }

/-- R8: the link with an idle transmitter. -/
def Link.idle (l : Link) : Link := { l with wire := none }

/-- R3, R8, R13: a DOWN port sends nothing and has an empty control list; a control frame on the wire is its head. -/
structure LinkOk (l : Link) : Prop where
  down : l.up = false → l.wire = none ∧ l.control = []
  control : ∀ w, l.wire = some w → w.owner = .control → ∃ c, l.control.head? = some c ∧ w.carries c.frame

/-- What the invariant says of an edge port with this link and this return list. -/
structure EdgeOk (l : Link) (returns : List Frame) : Prop where
  link : LinkOk l
  returned : ∀ w, l.wire = some w → w.owner = .returnFrame → ∃ f, returns.head? = some f ∧ w.carries f
  noBundle : ∀ seq, l.sends seq = false

/-- R96: the table of the trunk states, but for the windows that may not be empty in STOPPING and HOLDING. -/
def Trunk.tableBase (k : Trunk) (up : Bool) : Prop :=
  match k.state with
  | .disabled => k.enabled = false ∧ k.bundles = [] ∧ k.stopRequested = false ∧ k.hold = none
  | .waiting => k.enabled = true ∧ up = false ∧ k.bundles = [] ∧ k.stopRequested = false ∧ k.hold = none
  | .running => k.enabled = true ∧ up = true ∧ k.stopRequested = false ∧ k.hold = none
  | .stopping => k.enabled = false ∧ up = true ∧ k.stopRequested = false ∧ k.hold = none
  | .holding => up = false ∧ k.stopRequested = !k.enabled ∧ k.hold.isSome = true

/-- What the invariant says of a trunk port, but for a window that the step under way may have emptied (R99). -/
structure TrunkNearlyOk (l : Link) (k : Trunk) : Prop where
  link : LinkOk l
  noReturn : ∀ w, l.wire = some w → w.owner ≠ .returnFrame
  bundle : ∀ seq, l.sends seq = true → ∃ b ∈ k.bundles, b.seq = seq
  table : k.tableBase l.up
  window : k.windowOk
  condition : ∀ b ∈ k.bundles, b.conditionOk k.state (l.sends b.seq)

/-- What the invariant says of a trunk port with this link and this trunk unit. -/
structure TrunkOk (l : Link) (k : Trunk) : Prop extends TrunkNearlyOk l k where
  filled : k.state = .stopping ∨ k.state = .holding → k.bundles ≠ []

theorem tableOk_iff (k : Trunk) (up : Bool) :
    k.tableOk up ↔ k.tableBase up ∧ (k.state = .stopping ∨ k.state = .holding → k.bundles ≠ []) := by
  unfold Trunk.tableOk Trunk.tableBase
  cases k.state <;> simp <;> tauto

theorem Link.sends_iff (l : Link) (seq : Byte) : l.sends seq = true ↔ ∃ w, l.wire = some w ∧ w.owner = .bundle seq := by
  unfold Link.sends
  cases l.wire <;> simp
theorem Link.sends_of_idle {l : Link} (h : l.wire = none) (seq : Byte) : l.sends seq = false := by
  simp [Link.sends, h]
@[simp] theorem Link.idle_sends (l : Link) (seq : Byte) : l.idle.sends seq = false := rfl
@[simp] theorem Link.idle_wire (l : Link) : l.idle.wire = none := rfl
@[simp] theorem Link.idle_up (l : Link) : l.idle.up = l.up := rfl
theorem onWire_eq (s : State) (t : TrunkId) (seq : Byte) : s.onWire t seq = (s.link t.port).sends seq := rfl
theorem start_link (s : State) (p : Port) (f : Frame) (o : WireOwner) : (s.start p f o).link p = (s.link p).started f o :=
  start_link_self s p f o
@[simp] theorem Link.started_up (l : Link) (f : Frame) (o : WireOwner) : (l.started f o).up = l.up := rfl
theorem Link.started_sends (l : Link) (f : Frame) (o : WireOwner) (seq : Byte) :
    (l.started f o).sends seq = (o == .bundle seq) := rfl

/-! ### The whole part -/

/-- What holds of transmitters, trunk units and windows while the part is not in reset. -/
def Consistent (s : State) : Prop := LinksOk s ∧ TrunksOk s

theorem linksOk_trunk {s : State} (h : LinksOk s) (t : TrunkId) : LinkOk (s.link t.port) ∧
    (∀ w, (s.link t.port).wire = some w → w.owner ≠ .returnFrame) ∧
    ∀ seq, (s.link t.port).sends seq = true → ∃ b ∈ (s.trunk t).bundles, b.seq = seq := by
  obtain ⟨down, owned⟩ := h t.port
  refine ⟨⟨down, fun w hw control => ?_⟩, fun w hw returned => ?_, fun seq sends => ?_⟩
  · simpa [State.wireOwned, control] using owned w hw
  · simpa [State.wireOwned, returned] using owned w hw
  · obtain ⟨w, hw, o⟩ := (Link.sends_iff _ seq).1 sends
    simpa [State.wireOwned, o] using owned w hw

theorem linksOk_edge {s : State} (h : LinksOk s) (k : EdgeId) : EdgeOk (s.link k.port) (s.edge.returns.get k) := by
  obtain ⟨down, owned⟩ := h k.port
  refine ⟨⟨down, fun w hw control => ?_⟩, fun w hw returned => ?_, fun seq => ?_⟩
  · simpa [State.wireOwned, control] using owned w hw
  · simpa [State.wireOwned, returned] using owned w hw
  · rw [← Bool.not_eq_true, Link.sends_iff]
    rintro ⟨w, hw, o⟩
    simpa [State.wireOwned, o] using owned w hw

/-- The invariant speaks of each port by itself. -/
theorem consistent_iff (s : State) : Consistent s ↔
    (∀ k : EdgeId, EdgeOk (s.link k.port) (s.edge.returns.get k)) ∧ ∀ t : TrunkId, TrunkOk (s.link t.port) (s.trunk t) := by
  constructor
  · rintro ⟨links, trunks⟩
    refine ⟨linksOk_edge links, fun t => ?_⟩
    obtain ⟨link, noReturn, bundle⟩ := linksOk_trunk links t
    obtain ⟨table, window, condition⟩ := trunks t
    obtain ⟨base, filled⟩ := (tableOk_iff _ _).1 table
    exact ⟨⟨link, noReturn, bundle, base, window, condition⟩, filled⟩
  · rintro ⟨edges, trunks⟩
    refine ⟨fun p => ?_, fun t => ⟨(tableOk_iff _ _).2 ⟨(trunks t).table, (trunks t).filled⟩, (trunks t).window,
      (trunks t).condition⟩⟩
    rcases port_cases p with ⟨k, rfl⟩ | ⟨t, rfl⟩
    · obtain ⟨link, returned, noBundle⟩ := edges k
      refine ⟨link.down, fun w hw => ?_⟩
      cases o : w.owner with
      | control => simpa [State.wireOwned, o] using link.control w hw o
      | returnFrame => simpa [State.wireOwned, o] using returned w hw o
      | bundle seq => exact absurd ((Link.sends_iff _ seq).2 ⟨w, hw, o⟩) (by simp [noBundle])
    · refine ⟨(trunks t).link.down, fun w hw => ?_⟩
      cases o : w.owner with
      | control => simpa [State.wireOwned, o] using (trunks t).link.control w hw o
      | returnFrame => exact absurd o ((trunks t).noReturn w hw)
      | bundle seq => simpa [State.wireOwned, o] using (trunks t).bundle seq ((Link.sends_iff _ seq).2 ⟨w, hw, o⟩)

/-- The invariant at every port but one trunk port, and there all but for an emptied window. -/
structure NearlyConsistent (s : State) (t : TrunkId) : Prop where
  edges : ∀ k : EdgeId, EdgeOk (s.link k.port) (s.edge.returns.get k)
  others : ∀ i : TrunkId, i ≠ t → TrunkOk (s.link i.port) (s.trunk i)
  here : TrunkNearlyOk (s.link t.port) (s.trunk t)

namespace Consistent
variable {s u : State}

theorem edge (h : Consistent s) (k : EdgeId) : EdgeOk (s.link k.port) (s.edge.returns.get k) := ((consistent_iff s).1 h).1 k
theorem trunk (h : Consistent s) (t : TrunkId) : TrunkOk (s.link t.port) (s.trunk t) := ((consistent_iff s).1 h).2 t

theorem nearly (h : Consistent s) (t : TrunkId) : NearlyConsistent s t :=
  ⟨h.edge, fun i _ => h.trunk i, (h.trunk t).toTrunkNearlyOk⟩

/-- Nothing that the invariant speaks of has changed. -/
theorem same (h : Consistent s) (links : ∀ p, u.link p = s.link p) (returns : u.edge.returns = s.edge.returns)
    (trunks : ∀ t, u.trunk t = s.trunk t) : Consistent u := by
  rw [consistent_iff] at h ⊢
  simpa [links, returns, trunks] using h

/-- Only an edge port has changed. -/
theorem of_edge (h : Consistent s) (k : EdgeId) (links : ∀ p, p ≠ k.port → u.link p = s.link p)
    (returns : ∀ j, j ≠ k → u.edge.returns.get j = s.edge.returns.get j) (trunks : ∀ t, u.trunk t = s.trunk t)
    (ok : EdgeOk (u.link k.port) (u.edge.returns.get k)) : Consistent u := by
  rw [consistent_iff]
  refine ⟨fun j => ?_, fun t => ?_⟩
  · by_cases e : j = k
    · subst e
      exact ok
    · rw [links _ (by simpa [edgePort_inj] using e), returns j e]
      exact h.edge j
  · rw [links _ (edgePort_ne_trunkPort k t).symm, trunks t]
    exact h.trunk t

end Consistent

namespace NearlyConsistent
variable {s u : State} {t : TrunkId}

/-- Only the trunk port has changed. -/
theorem of_trunk (h : NearlyConsistent s t) (links : ∀ p, p ≠ t.port → u.link p = s.link p)
    (returns : u.edge.returns = s.edge.returns) (trunks : ∀ i, i ≠ t → u.trunk i = s.trunk i)
    (ok : TrunkNearlyOk (u.link t.port) (u.trunk t)) : NearlyConsistent u t := by
  refine ⟨fun k => ?_, fun i hi => ?_, ok⟩
  · rw [links _ (edgePort_ne_trunkPort k t), returns]
    exact h.edges k
  · rw [links _ (by simpa [trunkPort_inj] using hi), trunks i hi]
    exact h.others i hi

theorem consistent (h : NearlyConsistent s t) (ok : TrunkOk (s.link t.port) (s.trunk t)) : Consistent s := by
  rw [consistent_iff]
  refine ⟨h.edges, fun i => ?_⟩
  by_cases e : i = t
  · subst e
    exact ok
  · exact h.others i e

end NearlyConsistent

/-- Only a trunk port has changed. -/
theorem Consistent.of_trunk {s u : State} (h : Consistent s) (t : TrunkId)
    (links : ∀ p, p ≠ t.port → u.link p = s.link p) (returns : u.edge.returns = s.edge.returns)
    (trunks : ∀ i, i ≠ t → u.trunk i = s.trunk i) (ok : TrunkOk (u.link t.port) (u.trunk t)) : Consistent u :=
  ((h.nearly t).of_trunk links returns trunks ok.toTrunkNearlyOk).consistent ok

end Sys2Proof.Machine
end


section
/-! SUPPORT. What the operations of a delivery window do to the invariant of its trunk port. They speak of a link and a trunk
unit only; the state in which both stand comes after. -/

namespace Sys2Proof.Machine

/-! ### Sequences -/

/-- Where no sequence stands twice, every bundle but the one with this sequence stays when that one leaves. -/
theorem eraseP_seq {l : List Bundle} (h : (l.map Bundle.seq).Nodup) (seq : Byte) :
    (l.eraseP fun x => x.seq == seq) = l.filter fun x => x.seq != seq := by
  induction l with
  | nil => rfl
  | cons b rest ih =>
    obtain ⟨new, rest_nodup⟩ := List.nodup_cons.1 h
    by_cases e : b.seq = seq
    · subst e
      have others : ∀ x ∈ rest, x.seq ≠ b.seq := fun x hx same => new (same ▸ List.mem_map_of_mem hx)
      simp [List.filter_eq_self.2 fun x hx => bne_iff_ne.2 (others x hx)]
    · simp [e, ih rest_nodup]

namespace Trunk.windowOk
variable {k : Trunk}

/-- R117: no sequence stands twice. -/
theorem nodup (h : k.windowOk) : (k.bundles.map Bundle.seq).Nodup := by
  obtain ⟨-, -, -, -, older⟩ := h
  rw [List.nodup_iff_pairwise_ne, List.pairwise_map]
  exact older.imp fun lt same => by rw [same] at lt; exact lt.false

theorem unique (h : k.windowOk) {b c : Bundle} (hb : b ∈ k.bundles) (hc : c ∈ k.bundles) (same : b.seq = c.seq) : b = c :=
  List.inj_on_of_nodup_map h.nodup hb hc same

/-- R117: the next sequence is not in the window. -/
theorem next_ne (h : k.windowOk) {b : Bundle} (hb : b ∈ k.bundles) : k.nextSeq ≠ b.seq := by
  obtain ⟨-, -, -, ages, -⟩ := h
  rintro e
  simpa [Trunk.age, e] using (ages b hb).1

theorem eraseP (h : k.windowOk) (seq : Byte) :
    (k.bundles.eraseP fun x => x.seq == seq) = k.bundles.filter fun x => x.seq != seq := eraseP_seq h.nodup seq

/-- The claim speaks of the bundles, the next sequence and the window size only. -/
theorem congr (h : k.windowOk) {j : Trunk} (bundles : j.bundles = k.bundles) (nextSeq : j.nextSeq = k.nextSeq)
    (windowSize : j.windowSize = k.windowSize) : j.windowOk := by
  simpa only [Trunk.windowOk, Trunk.age, bundles, nextSeq, windowSize] using h

theorem sublist (h : k.windowOk) {bs : List Bundle} (sub : bs.Sublist k.bundles) :
    ({ k with bundles := bs } : Trunk).windowOk := by
  obtain ⟨low, high, room, ages, older⟩ := h
  exact ⟨low, high, (sub.filter _).length_le.trans room, fun b hb => ages b (sub.subset hb), older.sublist sub⟩

/-- Bundles may change where they stand, as long as they keep their sequences and none becomes OUTSTANDING again. -/
theorem map (h : k.windowOk) {f : Bundle → Bundle} (seq : ∀ b, (f b).seq = b.seq)
    (retiring : ∀ b, (f b).retiring = false → b.retiring = false) :
    ({ k with bundles := k.bundles.map f } : Trunk).windowOk := by
  obtain ⟨low, high, room, ages, older⟩ := h
  refine ⟨low, high, ?_, ?_, ?_⟩
  · rw [List.filter_map, List.length_map]
    refine le_trans (List.Sublist.length_le (List.monotone_filter_right _ fun b hb => ?_)) room
    simpa using retiring b (by simpa using hb)
  · intro b hb
    obtain ⟨c, hc, rfl⟩ := List.mem_map.1 hb
    rw [seq]
    exact ages c hc
  · rw [List.pairwise_map]
    exact older.imp fun lt => by rw [seq, seq]; exact lt

end Trunk.windowOk

/-! ### Conditions -/

theorem Bundle.conditionOk.sends_of_retiring {b : Bundle} {m : TrunkMode} {sending : Bool} (h : b.conditionOk m sending) :
    b.retiring = true → sending = true := by
  obtain ⟨retiring, -, -, -, -, -⟩ := h
  exact retiring

theorem Bundle.conditionOk.deadline_of_sends {b : Bundle} {m : TrunkMode} {sending : Bool} (h : b.conditionOk m sending) :
    sending = true → b.retryDeadline = none := by
  obtain ⟨-, sends, -, -, -, -⟩ := h
  exact fun on => (sends on).2

theorem Bundle.conditionOk.retry_le {b : Bundle} {m : TrunkMode} {sending : Bool} (h : b.conditionOk m sending) :
    b.retry ≤ 15 := by
  obtain ⟨-, -, -, -, -, retry⟩ := h
  exact retry

/-! ### Bundles leave -/

/-- R96: the table claims no more of a smaller window. -/
theorem Trunk.tableBase.sublist {k : Trunk} {up : Bool} {bs : List Bundle} (h : k.tableBase up) (sub : bs.Sublist k.bundles) :
    ({ k with bundles := bs } : Trunk).tableBase up := by
  unfold Trunk.tableBase at h ⊢
  have none_left : k.bundles = [] → bs = [] := fun e => List.sublist_nil.1 (e ▸ sub)
  cases mode : k.state <;> simp only [mode] at h ⊢ <;> tauto

namespace TrunkNearlyOk
variable {l l' : Link} {k : Trunk}

/-- Bundles leave the window, and the one on the wire leaves the wire with them or stays on it. -/
theorem release (h : TrunkNearlyOk l k) {bs : List Bundle} (sub : bs.Sublist k.bundles) (up : l'.up = l.up)
    (link : LinkOk l') (noReturn : ∀ w, l'.wire = some w → w.owner ≠ .returnFrame)
    (stays : ∀ seq, l'.sends seq = true → ∃ b ∈ bs, b.seq = seq) (agree : ∀ b ∈ bs, l'.sends b.seq = l.sends b.seq) :
    TrunkNearlyOk l' { k with bundles := bs } where
  link := link
  noReturn := noReturn
  bundle := stays
  table := up ▸ h.table.sublist sub
  window := h.window.sublist sub
  condition b hb := agree b hb ▸ h.condition b (sub.subset hb)

/-- R124, R127: a bundle that is not on the wire leaves the window. -/
theorem erase (h : TrunkNearlyOk l k) {seq : Byte} (off : l.sends seq = false) :
    TrunkNearlyOk l { k with bundles := k.bundles.eraseP fun x => x.seq == seq } := by
  refine h.release List.eraseP_sublist rfl h.link h.noReturn (fun other sends => ?_) fun _ _ => rfl
  obtain ⟨b, hb, rfl⟩ := h.bundle other sends
  refine ⟨b, ?_, rfl⟩
  rw [h.window.eraseP, List.mem_filter]
  refine ⟨hb, ?_⟩
  simp only [bne_iff_ne]
  rintro rfl
  simp [off] at sends

end TrunkNearlyOk

theorem LinkOk.idle {l : Link} (h : LinkOk l) : LinkOk l.idle where
  down hl := ⟨rfl, (h.down hl).2⟩
  control _ hw := nomatch hw

/-- One transmission at a time: whatever bundle is on the wire, it has the sequence of the wire's owner. -/
theorem Link.sends_unique {l : Link} {a b : Byte} (ha : l.sends a = true) (hb : l.sends b = true) : a = b := by
  obtain ⟨w, hw, oa⟩ := (l.sends_iff a).1 ha
  obtain ⟨v, hv, ob⟩ := (l.sends_iff b).1 hb
  cases hw.symm.trans hv
  cases oa.symm.trans ob
  rfl

namespace TrunkNearlyOk
variable {l : Link} {k : Trunk}

/-- R88, R121, R122: bundles leave the window, the one on the wire among them, and the transmitter goes idle. -/
theorem releaseSent (h : TrunkNearlyOk l k) {bs : List Bundle} (sub : bs.Sublist k.bundles)
    (sent : ∀ b ∈ bs, l.sends b.seq = false) : TrunkNearlyOk l.idle { k with bundles := bs } :=
  h.release sub rfl h.link.idle (fun _ hw => nomatch hw) (fun _ sends => nomatch sends) fun b hb => by simp [sent b hb]

theorem eraseSent (h : TrunkNearlyOk l k) {seq : Byte} (on : l.sends seq = true) :
    TrunkNearlyOk l.idle { k with bundles := k.bundles.eraseP fun x => x.seq == seq } := by
  refine h.releaseSent List.eraseP_sublist fun b hb => ?_
  rw [h.window.eraseP, List.mem_filter, bne_iff_ne] at hb
  rw [← Bool.not_eq_true]
  exact fun sends => hb.2 (Link.sends_unique sends on)

/-! ### Bundles change where they stand -/

/-- Bundles change where they stand, each to one whose condition fits what the transmitter sends then. -/
theorem update (h : TrunkNearlyOk l k) {l' : Link} {f : Bundle → Bundle} (seq : ∀ b, (f b).seq = b.seq)
    (retiring : ∀ b, (f b).retiring = false → b.retiring = false) (up : l'.up = l.up) (link : LinkOk l')
    (noReturn : ∀ w, l'.wire = some w → w.owner ≠ .returnFrame)
    (stays : ∀ seq, l'.sends seq = true → ∃ b ∈ k.bundles, b.seq = seq)
    (condition : ∀ b ∈ k.bundles, b.conditionOk k.state (l.sends b.seq) → (f b).conditionOk k.state (l'.sends b.seq)) :
    TrunkNearlyOk l' { k with bundles := k.bundles.map f } where
  link := link
  noReturn := noReturn
  bundle s sends := by
    obtain ⟨b, hb, rfl⟩ := stays s sends
    exact ⟨f b, List.mem_map_of_mem hb, seq b⟩
  table := by
    have base := h.table
    unfold Trunk.tableBase at base ⊢
    rw [up]
    cases mode : k.state <;> simp_all
  window := h.window.map seq retiring
  condition b hb := by
    obtain ⟨c, hc, rfl⟩ := List.mem_map.1 hb
    rw [seq]
    exact condition c hc (h.condition c hc)

/-- The bundle with this sequence changes, and the transmitter starts or ends it or does neither. -/
theorem updBundle (h : TrunkNearlyOk l k) {l' : Link} {s : Byte} {f : Bundle → Bundle} (seq : ∀ b, (f b).seq = b.seq)
    (retiring : ∀ b, (f b).retiring = false → b.retiring = false) (up : l'.up = l.up) (link : LinkOk l')
    (noReturn : ∀ w, l'.wire = some w → w.owner ≠ .returnFrame)
    (stays : ∀ q, l'.sends q = true → ∃ b ∈ k.bundles, b.seq = q) (others : ∀ q, q ≠ s → l'.sends q = l.sends q)
    (here : ∀ b ∈ k.bundles, b.seq = s → b.conditionOk k.state (l.sends s) → (f b).conditionOk k.state (l'.sends s)) :
    TrunkNearlyOk l' (k.updBundle s f) := by
  refine h.update (fun b => ?_) (fun b => ?_) up link noReturn stays fun b hb ok => ?_
  · split <;> simp [seq]
  · split
    · exact retiring b
    · exact id
  · split
    · rename_i e
      subst e
      exact here b hb rfl ok
    · rename_i e
      exact others _ e ▸ ok

/-- R124: a bundle on the wire becomes RETIRING. -/
theorem retiring (h : TrunkNearlyOk l k) {seq : Byte} (on : l.sends seq = true) :
    TrunkNearlyOk l (k.updBundle seq fun x => { x with retiring := true }) := by
  refine h.updBundle (fun _ => rfl) (fun _ e => nomatch e) rfl h.link h.noReturn h.bundle (fun _ _ => rfl) ?_
  rintro b - - ⟨-, sending, due, held, holding, retry⟩
  exact ⟨fun _ => on, sending, due, held, holding, retry⟩

/-- R3, R96: what is on the wire of a trunk port is not sent in HOLDING. -/
theorem not_holding (h : TrunkNearlyOk l k) {seq : Byte} (on : l.sends seq = true) : k.state ≠ .holding := by
  intro holding
  have base := h.table
  simp only [Trunk.tableBase, holding] at base
  simp [Link.sends, (h.link.down base.1).1] at on

/-- R121: the end of a transmission sets the retry deadline of the bundle. -/
theorem ends (h : TrunkNearlyOk l k) {seq : Byte} (on : l.sends seq = true) (d : Word)
    (outstanding : ∀ b ∈ k.bundles, b.seq = seq → b.retiring = false) :
    TrunkNearlyOk l.idle (k.updBundle seq fun x => { x with retryDeadline := some d }) := by
  refine h.updBundle (fun _ => rfl) (fun _ => id) rfl h.link.idle (fun _ hw => nomatch hw) (fun _ sends => nomatch sends)
    (fun q other => ?_) ?_
  · rw [Link.idle_sends, eq_comm, ← Bool.not_eq_true]
    exact fun sends => other (Link.sends_unique sends on)
  · rintro b hb e ⟨-, sending, -, -, -, retry⟩
    have off : b.retiring = false := outstanding b hb e
    exact ⟨by simp [off], by simp, by simp [(sending on).1], by simp, fun holding => absurd holding (h.not_holding on), retry⟩

/-- R127: a bundle that waits becomes due. -/
theorem becomesDue (h : TrunkNearlyOk l k) {seq : Byte} (off : l.sends seq = false) :
    TrunkNearlyOk l (k.updBundle seq fun x => { x with due := some .counted, retryDeadline := none }) := by
  refine h.updBundle (fun _ => rfl) (fun _ => id) rfl h.link h.noReturn h.bundle (fun _ _ => rfl) ?_
  rintro b - - ⟨retiring, -, -, -, -, retry⟩
  exact ⟨retiring, by simp [off], by simp, by simp, by simp, retry⟩

end TrunkNearlyOk

/-! ### Bundles enter -/

theorem LinkOk.started {l : Link} (up : l.up = true) {f : Frame} {o : WireOwner}
    (head : o = .control → ∃ c, l.control.head? = some c ∧ c.frame = f) : LinkOk (l.started f o) where
  down down := by simp [up] at down
  control w hw control := by
    cases hw
    obtain ⟨c, hc, rfl⟩ := head control
    exact ⟨c, hc, rfl⟩

namespace TrunkNearlyOk
variable {l : Link} {k : Trunk}

/-- R106: a due bundle is sent again. -/
theorem resend (h : TrunkNearlyOk l k) (up : l.up = true) (idle : l.wire = none) {b : Bundle} (hb : b ∈ k.bundles)
    (due : b.due.isSome = true) (f : Frame) :
    TrunkNearlyOk (l.started f (.bundle b.seq)) (k.updBundle b.seq Bundle.resent) := by
  refine h.updBundle (fun _ => rfl) (fun _ => id) rfl (.started up (by simp)) ?_ ?_ ?_ ?_
  · rintro w hw
    cases hw
    simp
  · intro q sends
    rw [Link.started_sends] at sends
    exact ⟨b, hb, by simpa using sends⟩
  · intro q other
    rw [Link.started_sends, Link.sends_of_idle idle]
    simpa using other.symm
  · rintro c hc same ⟨-, -, held, -, -, retry⟩
    obtain rfl := h.window.unique hc hb same
    have noDeadline : c.retryDeadline = none := held (by rintro e; simp [e] at due)
    refine ⟨by simp [Link.started_sends], by simp [Bundle.resent, noDeadline], by simp [Bundle.resent],
      by simp [Link.started_sends], fun _ => noDeadline, ?_⟩
    simp only [Bundle.resent, Config.retryCountMax]
    split <;> omega

/-- R118: while the transmitter is idle no bundle is RETIRING. -/
theorem none_retiring (h : TrunkNearlyOk l k) (idle : l.wire = none) {b : Bundle} (hb : b ∈ k.bundles) :
    b.retiring = false := by
  rw [← Bool.not_eq_true]
  intro retiring
  simpa [Link.sends_of_idle idle] using (h.condition b hb).sends_of_retiring retiring

end TrunkNearlyOk

/-- R111: the trunk unit as it grants the batch `b` of queue `q`. -/
def Trunk.grants (k : Trunk) (level : Option (Fin 4)) (q : QueueId) (b : Batch) : Trunk :=
  { (k.movePointer level q) with bundles := k.bundles ++ [Bundle.granted b k.nextSeq], nextSeq := k.nextSeq + 1 }

section
variable (k : Trunk) (level : Option (Fin 4)) (q : QueueId) (b : Batch)

/-- R110: a grant moves a pointer, and nothing else but the window and the next sequence changes. -/
theorem Trunk.grants_eq : k.grants level q b =
    { k with rrPointer := (k.movePointer level q).rrPointer, levelPointers := (k.movePointer level q).levelPointers,
             bundles := k.bundles ++ [Bundle.granted b k.nextSeq], nextSeq := k.nextSeq + 1 } := by
  cases level <;> rfl

theorem Trunk.grants_age {seq : Byte} (h : k.age seq ≤ 16) : (k.grants level q b).age seq = k.age seq + 1 := by
  simp only [Trunk.age, Trunk.grants_eq] at h ⊢
  bv_omega
end

/-- Where the ages fall strictly, down to 1 or more, there are no more bundles than the first age says. -/
theorem length_le_of_ages {age : Bundle → Nat} {n : Nat} {l : List Bundle} (falling : l.Pairwise fun a b => age b < age a)
    (positive : ∀ b ∈ l, 1 ≤ age b) (bounded : ∀ b ∈ l, age b ≤ n) : l.length ≤ n := by
  induction l generalizing n with
  | nil => exact Nat.zero_le n
  | cons a rest ih =>
    obtain ⟨below, falling⟩ := List.pairwise_cons.1 falling
    simp only [List.mem_cons, forall_eq_or_imp] at positive bounded
    have shorter : rest.length ≤ n - 1 := ih falling positive.2 fun b hb => by
      have := below b hb
      omega
    simp only [List.length_cons]
    omega

namespace TrunkNearlyOk
variable {l : Link} {k : Trunk}

/-- R107, R119: while none is RETIRING, no bundle lies further back than the span. -/
theorem age_le_span (h : TrunkNearlyOk l k) (idle : l.wire = none) : ∀ b ∈ k.bundles, k.age b.seq ≤ k.span := by
  obtain ⟨-, -, -, -, older⟩ := h.window
  have outstanding : ∀ b ∈ k.bundles, b.retiring = false := fun b hb => h.none_retiring idle hb
  simp only [Trunk.span, Trunk.base, Trunk.age] at older ⊢
  cases window : k.bundles with
  | nil => simp
  | cons a rest =>
    rw [window] at older outstanding
    have first : a.retiring = false := outstanding a List.mem_cons_self
    intro b hb
    rw [List.find?_cons_of_pos (by simp [first])]
    rcases List.mem_cons.1 hb with rfl | hb
    · exact le_rfl
    · exact ((List.pairwise_cons.1 older).1 b hb).le

/-- R107, R117: a span below the window size leaves room for one more bundle. -/
theorem windowOk_grants (h : TrunkNearlyOk l k) (idle : l.wire = none) (room : k.span < k.windowSize)
    (level : Option (Fin 4)) (q : QueueId) (b : Batch) : (k.grants level q b).windowOk := by
  have bounded : ∀ c ∈ k.bundles, k.age c.seq ≤ k.span := h.age_le_span idle
  obtain ⟨low, high, -, ages, older⟩ := h.window
  have number : k.bundles.length ≤ k.span := length_le_of_ages older (fun c hc => (ages c hc).1) bounded
  have next : (k.grants level q b).age k.nextSeq = 1 := by
    simp only [Trunk.age, Trunk.grants_eq]
    bv_omega
  have grown : ∀ c ∈ k.bundles, (k.grants level q b).age c.seq = k.age c.seq + 1 :=
    fun c hc => k.grants_age level q b (ages c hc).2
  have bundles : (k.grants level q b).bundles = k.bundles ++ [Bundle.granted b k.nextSeq] := rfl
  have size : (k.grants level q b).windowSize = k.windowSize := by rw [Trunk.grants_eq]
  refine ⟨size ▸ low, size ▸ high, ?_, ?_, ?_⟩
  · rw [size, bundles]
    refine (List.length_filter_le _ _).trans ?_
    rw [List.length_append, List.length_singleton]
    omega
  · intro c hc
    rw [bundles, List.mem_append, List.mem_singleton] at hc
    rcases hc with hc | rfl
    · have := bounded c hc
      rw [grown c hc]
      omega
    · show 1 ≤ (k.grants level q b).age k.nextSeq ∧ (k.grants level q b).age k.nextSeq ≤ 16
      omega
  · rw [bundles, List.pairwise_append]
    refine ⟨(List.pairwise_iff_forall_sublist.2 fun {x y} sub => ?_), List.pairwise_singleton _ _, ?_⟩
    · rw [grown x (sub.subset (by simp)), grown y (sub.subset (by simp))]
      exact Nat.succ_lt_succ (List.pairwise_iff_forall_sublist.1 older sub)
    · intro c hc d hd
      obtain rfl := List.mem_singleton.1 hd
      show (k.grants level q b).age k.nextSeq < _
      have := (ages c hc).1
      rw [next, grown c hc]
      omega

/-- R111: the head batch of a queue becomes a bundle and its first transmission starts. -/
theorem grants (h : TrunkNearlyOk l k) (up : l.up = true) (idle : l.wire = none) (running : k.state = .running)
    (room : k.span < k.windowSize) (level : Option (Fin 4)) (q : QueueId) (b : Batch) (f : Frame) :
    TrunkNearlyOk (l.started f (.bundle k.nextSeq)) (k.grants level q b) where
  link := .started up (by simp)
  noReturn w hw := by
    cases hw
    simp
  bundle seq sends := by
    rw [Link.started_sends] at sends
    exact ⟨Bundle.granted b k.nextSeq, by simp [Trunk.grants], by simpa [Bundle.granted] using sends⟩
  table := by
    have base := h.table
    rw [Trunk.grants_eq]
    simpa only [Trunk.tableBase, running, Link.started_up] using base
  window := h.windowOk_grants idle room level q b
  condition c hc := by
    have state : (k.grants level q b).state = k.state := by rw [Trunk.grants_eq]
    rw [Link.started_sends, state]
    rw [show (k.grants level q b).bundles = k.bundles ++ [Bundle.granted b k.nextSeq] from rfl, List.mem_append,
      List.mem_singleton] at hc
    rcases hc with hc | rfl
    · have ok := h.condition c hc
      rw [Link.sends_of_idle idle] at ok
      have other : (WireOwner.bundle k.nextSeq == .bundle c.seq) = false := by simpa using h.window.next_ne hc
      rw [other]
      exact ok
    · simp [Bundle.conditionOk, Bundle.granted, running]

end TrunkNearlyOk

end Sys2Proof.Machine
end


section
/-! SUPPORT. What a trunk unit does to the invariant of its port: the emptied window, the reports of its link, the writes of
its admin state, and its restart. They speak of a link and a trunk unit only. -/

namespace Sys2Proof.Machine

/-! ### The emptied window -/

/-- R99: the trunk unit when the window is left empty, and as it is otherwise. -/
def Trunk.emptied (k : Trunk) : Trunk :=
  if k.bundles = [] then
    match k.state with
    | .stopping => { k with state := .disabled }
    | .holding =>
      { k with hold := none, state := if k.stopRequested then .disabled else .waiting, stopRequested := false }
    | .disabled | .waiting | .running => k
  else k

theorem windowEmptied_trunk_self (s : State) (t : TrunkId) : (s.windowEmptied t).trunk t = (s.trunk t).emptied := by
  unfold State.windowEmptied Trunk.emptied
  simp only [List.isEmpty_iff]
  split
  · cases mode : (s.trunk t).state <;> simp
  · rfl

theorem windowEmptied_trunk_ne (s : State) {t i : TrunkId} (h : i ≠ t) : (s.windowEmptied t).trunk i = s.trunk i := by
  unfold State.windowEmptied
  split
  · split <;> simp [h]
  · rfl

/-- R99: the window that a step has left empty is none of STOPPING or HOLDING. -/
theorem TrunkNearlyOk.emptied {l : Link} {k : Trunk} (h : TrunkNearlyOk l k) : TrunkOk l k.emptied := by
  by_cases empty : k.bundles = []
  · obtain ⟨link, noReturn, bundle, table, window, condition⟩ := h
    unfold Trunk.emptied
    rw [if_pos empty]
    simp only [Trunk.tableBase] at table
    cases mode : k.state <;> simp only [mode] at table ⊢
    case stopping =>
      obtain ⟨disabled, -, noStop, noHold⟩ := table
      exact { link, noReturn, bundle, window, table := ⟨disabled, empty, noStop, noHold⟩
              condition := by simp [empty], filled := by simp }
    case holding =>
      obtain ⟨down, stop, -⟩ := table
      refine { link, noReturn, bundle, window, table := ?_, condition := by simp [empty], filled := ?_ }
      · cases enabled : k.enabled <;> simp [Trunk.tableBase, stop, enabled, down, empty]
      · cases enabled : k.enabled <;> simp [stop, enabled]
    all_goals exact { link, noReturn, bundle, window, table := by simpa [Trunk.tableBase, mode] using table
                      condition := by simp [empty], filled := by simp [mode] }
  · unfold Trunk.emptied
    rw [if_neg empty]
    exact { h with filled := fun _ => empty }

/-- The trunk unit changes its state, but no bundle, and neither enters nor leaves HOLDING. -/
theorem TrunkNearlyOk.moves {l l' : Link} {k j : Trunk} (h : TrunkNearlyOk l k) (bundles : j.bundles = k.bundles)
    (nextSeq : j.nextSeq = k.nextSeq) (windowSize : j.windowSize = k.windowSize) (link : LinkOk l')
    (noReturn : ∀ w, l'.wire = some w → w.owner ≠ .returnFrame) (sends : ∀ seq, l'.sends seq = l.sends seq)
    (holding : j.state = .holding ↔ k.state = .holding) (table : j.tableBase l'.up) : TrunkNearlyOk l' j := by
  refine { link, table, noReturn, bundle := by simpa [sends, bundles] using h.bundle
           window := h.window.congr bundles nextSeq windowSize, condition := fun b hb => ?_ }
  simpa only [Bundle.conditionOk, holding, sends] using h.condition b (bundles ▸ hb)

/-- The link changes, but neither its state nor the bundle on its wire. -/
theorem TrunkOk.relink {l l' : Link} {k : Trunk} (h : TrunkOk l k) (link : LinkOk l')
    (noReturn : ∀ w, l'.wire = some w → w.owner ≠ .returnFrame) (sends : ∀ seq, l'.sends seq = l.sends seq)
    (up : l'.up = l.up) : TrunkOk l' k :=
  { h.moves rfl rfl rfl link noReturn sends Iff.rfl (up ▸ h.table) with filled := h.filled }

/-! ### The end of a hold -/

/-- R102: the trunk unit when its hold ends by the deadline. -/
def Trunk.holdEnds (k : Trunk) : Trunk :=
  { k with bundles := [], hold := none, stopRequested := false, state := if k.stopRequested then .disabled else .waiting }

theorem holdExpires_trunk_self (s : State) (t : TrunkId) : (s.holdExpires t).trunk t = (s.trunk t).holdEnds :=
  (holdExpires_spec s t).1
theorem holdExpires_trunk_ne (s : State) {t i : TrunkId} (h : i ≠ t) : (s.holdExpires t).trunk i = s.trunk i :=
  (holdExpires_spec s t).2.1 i h

theorem TrunkNearlyOk.holdEnds {l : Link} {k : Trunk} (h : TrunkNearlyOk l k) (holding : k.state = .holding) :
    TrunkOk l k.holdEnds := by
  obtain ⟨link, noReturn, -, table, window, -⟩ := h
  simp only [Trunk.tableBase, holding] at table
  obtain ⟨down, stop, -⟩ := table
  have silent : ∀ seq, l.sends seq = false := Link.sends_of_idle (link.down down).1
  refine { link, noReturn, bundle := by simp [silent], table := ?_, window := window.sublist (List.nil_sublist _)
           condition := by simp [Trunk.holdEnds], filled := ?_ }
  · cases enabled : k.enabled <;> simp [Trunk.holdEnds, Trunk.tableBase, stop, enabled, down]
  · cases enabled : k.enabled <;> simp [Trunk.holdEnds, stop, enabled]

/-! ### Link reports -/

/-- R101: the trunk unit takes a report of UP in HOLDING: every bundle is due. -/
theorem TrunkOk.linkUpHolding {l : Link} {k : Trunk} (h : TrunkOk l k) (holding : k.state = .holding) :
    TrunkOk { l with up := true } k.linkUp := by
  have table := h.table
  simp only [Trunk.tableBase, holding] at table
  obtain ⟨down, stop, -⟩ := table
  obtain ⟨wire, -⟩ := h.link.down down
  have bundles : k.linkUp.bundles = k.bundles.map Bundle.heldDue := by simp [Trunk.linkUp, holding]
  have window : k.linkUp.windowOk := (h.window.map (f := Bundle.heldDue) (fun _ => rfl) fun _ => id).congr
    bundles (by simp [Trunk.linkUp, holding]) (by simp [Trunk.linkUp, holding])
  have state : k.linkUp.state ≠ .holding := by
    simp only [Trunk.linkUp, holding]
    split <;> simp
  have silent : ∀ seq, ({ l with up := true } : Link).sends seq = false := fun seq => Link.sends_of_idle wire seq
  refine { window, link := ⟨by simp, by simp [wire]⟩, noReturn := by simp [wire], bundle := by simp [silent], table := ?_
           condition := fun b hb => ?_, filled := fun _ => by simpa [bundles] using h.filled (.inr holding) }
  · cases enabled : k.enabled <;> simp [Trunk.linkUp, holding, Trunk.tableBase, stop, enabled]
  · obtain ⟨c, hc, rfl⟩ := List.mem_map.1 (bundles ▸ hb)
    have before := h.condition c hc
    rw [Link.sends_of_idle wire] at before
    obtain ⟨retiring, -, -, -, deadline, retry⟩ := before
    rw [silent]
    exact ⟨retiring, by simp, fun _ => deadline holding, by simp [Bundle.heldDue], fun e => absurd e state, retry⟩

/-- R101: the trunk unit takes a report of UP. -/
theorem TrunkOk.linkUp {l : Link} {k : Trunk} (h : TrunkOk l k) (down : l.up = false) :
    TrunkOk { l with up := true } k.linkUp := by
  by_cases holding : k.state = .holding
  · exact h.linkUpHolding holding
  · have table := h.table
    have wire := (h.link.down down).1
    simp only [Trunk.tableBase, down] at table
    have same : k.linkUp.bundles = k.bundles ∧ k.linkUp.nextSeq = k.nextSeq ∧ k.linkUp.windowSize = k.windowSize := by
      unfold Trunk.linkUp
      split <;> simp_all
    have nearly : TrunkNearlyOk { l with up := true } k.linkUp := by
      refine h.moves same.1 same.2.1 same.2.2 ⟨by simp, by simp [wire]⟩ h.noReturn (fun _ => rfl) ?_ ?_
      all_goals cases mode : k.state <;> simp_all [Trunk.linkUp, Trunk.tableBase]
    refine { nearly with filled := ?_ }
    cases mode : k.state <;> simp_all [Trunk.linkUp]

/-- The window of a trunk port whose link goes DOWN, after the abort: the bundle that was on the wire is neither waiting nor
due, and none is RETIRING. -/
structure Trunk.Cut (k : Trunk) : Prop where
  table : k.tableBase true
  window : k.windowOk
  filled : k.state = .stopping → k.bundles ≠ []
  outstanding : ∀ b ∈ k.bundles, b.retiring = false
  retry : ∀ b ∈ k.bundles, b.retry ≤ 15

/-- R100, R122: the window after the abort of the transmission `w`. -/
def Trunk.cutBy (k : Trunk) (w : Option OnWire) : Trunk :=
  match w.map OnWire.owner with
  | some (.bundle seq) =>
    match k.bundles.find? fun b => b.seq == seq with
    | some b => if b.retiring then ({ k with bundles := k.bundles.eraseP fun x => x.seq == seq } : Trunk).emptied else k
    | none => k
  | some .control | some .returnFrame | none => k

theorem windowAbort_trunk_self (s : State) (t : TrunkId) (w : Option OnWire) :
    (s.windowAbort t w).trunk t = (s.trunk t).cutBy w := by
  unfold State.windowAbort Trunk.cutBy
  cases w with
  | none => rfl
  | some x =>
    cases owner : x.owner with
    | control => simp [owner]
    | returnFrame => simp [owner]
    | bundle seq =>
      simp only [Option.map_some, owner]
      cases found : (s.trunk t).bundles.find? fun b => b.seq == seq with
      | none => rfl
      | some b =>
        have same : b.seq = seq := by simpa using List.find?_some found
        cases retiring : b.retiring
        · simp [retiring]
        · simp [retiring, windowEmptied_trunk_self, same]

theorem windowAbort_trunk_ne (s : State) {t i : TrunkId} (w : Option OnWire) (h : i ≠ t) :
    (s.windowAbort t w).trunk i = s.trunk i := by
  unfold State.windowAbort
  split
  · rfl
  · split <;> [rfl; rfl; split <;> [rfl; split]]
    · simp [windowEmptied_trunk_ne, retire_fst_trunk_ne, h]
    · rfl

/-- R118, R122: the abort leaves no RETIRING bundle, since such a one is on the wire. -/
theorem TrunkOk.cutBy {l : Link} {k : Trunk} (h : TrunkOk l k) (up : l.up = true) : (k.cutBy l.wire).Cut := by
  have whole : (∀ b ∈ k.bundles, b.retiring = false) → k.Cut := fun outstanding =>
    { outstanding, table := up ▸ h.table, window := h.window, filled := fun stopping => h.filled (.inl stopping)
      retry := fun b hb => (h.condition b hb).retry_le }
  have sent : ∀ b ∈ k.bundles, b.retiring = true → l.sends b.seq = true := fun b hb => (h.condition b hb).sends_of_retiring
  have none_retires : (∀ seq, l.sends seq = false) → ∀ b ∈ k.bundles, b.retiring = false := fun silent b hb => by
    rw [← Bool.not_eq_true]
    intro retiring
    simpa [silent] using sent b hb retiring
  unfold Trunk.cutBy
  cases wire : l.wire with
  | none => exact whole (none_retires (Link.sends_of_idle wire))
  | some w =>
    cases owner : w.owner with
    | control => simpa [owner] using whole (none_retires fun seq => by simp [Link.sends, wire, owner])
    | returnFrame => exact absurd owner (h.noReturn w wire)
    | bundle seq =>
      have on : l.sends seq = true := (l.sends_iff seq).2 ⟨w, wire, owner⟩
      have same : ∀ b ∈ k.bundles, b.retiring = true → b.seq = seq := fun b hb retiring =>
        Link.sends_unique (sent b hb retiring) on
      simp only [Option.map_some, owner]
      cases found : k.bundles.find? fun b => b.seq == seq with
      | none =>
        refine whole fun b hb => ?_
        rw [← Bool.not_eq_true]
        intro retiring
        exact absurd (same b hb retiring) (by simpa using List.find?_eq_none.1 found b hb)
      | some b =>
        have hb : b ∈ k.bundles := List.mem_of_find?_eq_some found
        have e : b.seq = seq := by simpa using List.find?_some found
        dsimp only
        split
        · have ok : TrunkOk l.idle _ := (h.toTrunkNearlyOk.eraseSent on).emptied
          refine { table := up ▸ ok.table, window := ok.window, filled := fun stopping => ok.filled (.inl stopping)
                   outstanding := fun c hc => ?_, retry := fun c hc => (ok.condition c hc).retry_le }
          rw [← Bool.not_eq_true]
          exact fun retiring => nomatch (ok.condition c hc).sends_of_retiring retiring
        · rename_i outstanding
          refine whole fun c hc => ?_
          rw [← Bool.not_eq_true]
          intro retiring
          obtain rfl := h.window.unique hc hb ((same c hc retiring).trans e.symm)
          exact outstanding retiring

/-- R100: the trunk unit takes a report of DOWN after the abort. -/
def Trunk.linkDown (k : Trunk) (now : Word) : Trunk :=
  match k.state with
  | .running =>
    if k.bundles = [] then { k with state := .waiting }
    else if k.holdTime = 0 then (k.enterHold now false).holdEnds else k.enterHold now false
  | .stopping =>
    if k.bundles = [] then { k with state := .disabled }
    else if k.holdTime = 0 then (k.enterHold now true).holdEnds else k.enterHold now true
  | .disabled | .waiting | .holding => k

theorem trunkLinkDown_trunk_self (s : State) (t : TrunkId) : (s.trunkLinkDown t).trunk t = (s.trunk t).linkDown s.now := by
  unfold State.trunkLinkDown Trunk.linkDown
  simp only [List.isEmpty_iff]
  cases mode : (s.trunk t).state <;> simp only
  all_goals split <;> [skip; split] <;> simp [holdExpires_trunk_self]

theorem trunkLinkDown_trunk_ne (s : State) {t i : TrunkId} (h : i ≠ t) : (s.trunkLinkDown t).trunk i = s.trunk i := by
  unfold State.trunkLinkDown
  dsimp only
  cases mode : (s.trunk t).state <;> simp only
  all_goals split <;> [skip; split] <;> simp [holdExpires_trunk_ne, h]

/-- R100: on entry to HOLDING every bundle is held or due. -/
theorem Trunk.Cut.enterHold {k : Trunk} (h : k.Cut) {l : Link} (link : LinkOk l) (down : l.up = false) (now : Word)
    (filled : k.bundles ≠ []) (stop : Bool) (stops : stop = !k.enabled) : TrunkOk l (k.enterHold now stop) := by
  obtain ⟨wire, -⟩ := link.down down
  have silent : ∀ seq, l.sends seq = false := Link.sends_of_idle wire
  have window : (k.enterHold now stop).windowOk :=
    (h.window.map (f := fun b => { b with retryDeadline := none }) (fun _ => rfl) fun _ => id).congr rfl rfl rfl
  refine { link, window, noReturn := by simp [wire], bundle := by simp [silent]
           table := by simp [Trunk.enterHold, Trunk.tableBase, down, stops], condition := fun b hb => ?_
           filled := fun _ => by simpa [Trunk.enterHold] using filled }
  obtain ⟨c, hc, rfl⟩ := List.mem_map.1 hb
  exact ⟨by simp [h.outstanding c hc], by simp [silent], by simp, fun _ _ _ => rfl, fun _ => rfl, h.retry c hc⟩

theorem Trunk.Cut.linkDown {k : Trunk} (h : k.Cut) {l : Link} (link : LinkOk l) (down : l.up = false) (now : Word) :
    TrunkOk l (k.linkDown now) := by
  obtain ⟨wire, -⟩ := link.down down
  have empty : ∀ j : Trunk, j.bundles = [] → j.windowOk → j.tableBase false → j.state ≠ .stopping ∧ j.state ≠ .holding →
      TrunkOk l j := fun j none window table state =>
    { link, window, noReturn := by simp [wire], bundle := by simp [Link.sends_of_idle wire], table := down ▸ table
      condition := by simp [none], filled := by simp [state] }
  have table := h.table
  simp only [Trunk.tableBase] at table
  unfold Trunk.linkDown
  cases mode : k.state <;> simp only [mode] at table ⊢
  case disabled => exact empty k table.2.1 h.window (by simpa [Trunk.tableBase, mode] using table) (by simp [mode])
  case waiting => simp at table
  case holding => simp at table
  case running =>
    obtain ⟨enabled, -, noStop, noHold⟩ := table
    split
    · rename_i none
      exact empty _ none (h.window.congr rfl rfl rfl) ⟨enabled, rfl, none, noStop, noHold⟩ (by simp)
    · rename_i filled
      have held := h.enterHold link down now filled false (by simp [enabled])
      split
      · exact held.holdEnds rfl
      · exact held
  case stopping =>
    obtain ⟨disabled, -, noStop, noHold⟩ := table
    rw [if_neg (h.filled mode)]
    have held := h.enterHold link down now (h.filled mode) true (by simp [disabled])
    split
    · exact held.holdEnds rfl
    · exact held

/-! ### Writes and the restart -/

/-- R97: an enable. -/
theorem TrunkOk.enable {l : Link} {k : Trunk} (h : TrunkOk l k) : TrunkOk l (k.enable l.up) := by
  have table := h.table
  have filled := h.filled
  simp only [Trunk.tableBase] at table
  have same : (k.enable l.up).bundles = k.bundles ∧ (k.enable l.up).nextSeq = k.nextSeq ∧
      (k.enable l.up).windowSize = k.windowSize := by
    unfold Trunk.enable
    dsimp only
    split <;> simp
  refine { h.moves same.1 same.2.1 same.2.2 h.link h.noReturn (fun _ => rfl) ?_ ?_ with filled := ?_ }
  all_goals cases mode : k.state <;> cases up : l.up <;> simp_all [Trunk.enable, Trunk.tableBase]

/-- R98: a disable. -/
theorem TrunkOk.disable {l : Link} {k : Trunk} (h : TrunkOk l k) : TrunkOk l k.disable := by
  have table := h.table
  have filled := h.filled
  simp only [Trunk.tableBase] at table
  have same : k.disable.bundles = k.bundles ∧ k.disable.nextSeq = k.nextSeq ∧ k.disable.windowSize = k.windowSize := by
    unfold Trunk.disable
    dsimp only
    split <;> simp
  refine { h.moves same.1 same.2.1 same.2.2 h.link h.noReturn (fun _ => rfl) ?_ ?_ with filled := ?_ }
  all_goals cases mode : k.state <;> by_cases empty : k.bundles = [] <;> simp_all [Trunk.disable, Trunk.tableBase]

/-- R160: a write of an item of which the invariant does not speak. -/
theorem TrunkOk.item {l : Link} {k j : Trunk} (h : TrunkOk l k)
    (write : j = { k with priorityMode := j.priorityMode, collector := j.collector, retryInterval := j.retryInterval,
                          retryLimit := j.retryLimit, holdTime := j.holdTime }) : TrunkOk l j := by
  rw [write]
  have table := h.table
  exact { h.moves rfl rfl rfl h.link h.noReturn (fun _ => rfl) Iff.rfl (by simpa only [Trunk.tableBase] using table) with filled := h.filled }

/-- R107: the window size is written in DISABLED, where the window is empty. -/
theorem TrunkOk.resize {l : Link} {k : Trunk} (h : TrunkOk l k) (disabled : k.state = .disabled) {v : Nat} (low : 1 ≤ v)
    (high : v ≤ 16) : TrunkOk l { k with windowSize := v } := by
  have table := h.table
  have bundle := h.bundle
  simp only [Trunk.tableBase, disabled] at table
  exact { link := h.link, noReturn := h.noReturn, bundle, table := by simpa [Trunk.tableBase, disabled] using table
          window := by simp [Trunk.windowOk, table, low, high], condition := h.condition, filled := by simp [disabled] }

/-- R116: after its restart the trunk unit stands where its admin state and its link put it, with an empty window. -/
theorem TrunkNearlyOk.restarted {l l' : Link} {k : Trunk} (h : TrunkNearlyOk l k) (link : LinkOk l')
    (noReturn : ∀ w, l'.wire = some w → w.owner ≠ .returnFrame) (silent : ∀ seq, l'.sends seq = false) :
    TrunkOk l' (k.restarted l'.up) := by
  obtain ⟨low, high, -, -, -⟩ := h.window
  refine { link, noReturn, bundle := by simp [silent], condition := by simp [Trunk.restarted], table := ?_, filled := ?_
           window := by simp [Trunk.restarted, Trunk.windowOk, low, high] }
  all_goals
    cases enabled : k.enabled <;> cases up : l'.up <;> simp [Trunk.restarted, restartedMode, Trunk.tableBase, enabled]

end Sys2Proof.Machine
end


section
/-! SUPPORT. Every operation of a block keeps the invariant of transmitters, trunk units and windows. -/

namespace Sys2Proof.Machine

/-! ### Selectors -/

/-- R105: what a decision of the arbiter does. -/
theorem trunkSelect_cases (s : State) (t : TrunkId) : s.trunkSelect t = s ∨
    (s.link t.port).up = true ∧ (s.link t.port).wire = none ∧
      ((∃ c, (s.link t.port).control.head? = some c ∧ s.trunkSelect t = s.start t.port c.frame .control) ∨
        (∃ b, (s.trunk t).oldestDue = some b ∧ s.trunkSelect t = s.resend t b) ∨
        ∃ q level, (s.trunk t).state = .running ∧ (s.trunk t).span < (s.trunk t).windowSize ∧
          s.trunkSelect t = s.grant t q level) := by
  by_cases free : s.free t.port = true
  · rw [free_iff] at free
    obtain ⟨up, idle⟩ := free
    unfold State.trunkSelect State.grantNext
    simp only [(free_iff s t.port).2 ⟨up, idle⟩, if_true]
    split
    · rename_i c _ list
      exact .inr ⟨up, idle, .inl ⟨c, by rw [list]; rfl, rfl⟩⟩
    · split
      · split
        · rename_i b due
          exact .inr ⟨up, idle, .inr (.inl ⟨b, due, rfl⟩)⟩
        · split
          · rename_i room
            split
            · rename_i q level _
              exact .inr ⟨up, idle, .inr (.inr ⟨q, level, room.1, room.2, rfl⟩)⟩
            · exact .inl rfl
          · exact .inl rfl
      · exact .inl rfl
  · exact .inl (trunkSelect_of_not_free s (by simpa using free))

/-- R39: what edge transmit selection does. -/
theorem edgeSelect_cases (s : State) (k : EdgeId) : s.edgeSelect k = s ∨
    (s.link k.port).up = true ∧
      ((∃ c, (s.link k.port).control.head? = some c ∧ s.edgeSelect k = s.start k.port c.frame .control) ∨
        ∃ f, (s.edge.returns.get k).head? = some f ∧ s.edgeSelect k = s.start k.port f .returnFrame) := by
  by_cases free : s.free k.port = true
  · have up := ((free_iff s k.port).1 free).1
    unfold State.edgeSelect
    simp only [free, if_true]
    split
    · rename_i c _ list
      exact .inr ⟨up, .inl ⟨c, by rw [list]; rfl, rfl⟩⟩
    · split
      · rename_i f _ list
        exact .inr ⟨up, .inr ⟨f, by rw [list]; rfl, rfl⟩⟩
      · exact .inl rfl
  · exact .inl (edgeSelect_of_not_free s (by simpa using free))

/-- R106: the link and the trunk unit after a resend. -/
theorem resend_link_self (s : State) (t : TrunkId) (b : Bundle) :
    ∃ f, (s.resend t b).link t.port = (s.link t.port).started f (.bundle b.seq) :=
  ⟨_, by simp only [State.resend, start_link, countTrunk_link, modTrunk_link]; rfl⟩
theorem resend_trunk_self (s : State) (t : TrunkId) (b : Bundle) :
    (s.resend t b).trunk t = (s.trunk t).updBundle b.seq Bundle.resent := by
  simp [State.resend]
theorem resend_trunk_ne (s : State) {t i : TrunkId} (b : Bundle) (h : i ≠ t) : (s.resend t b).trunk i = s.trunk i := by
  simp [State.resend, h]

section
variable {s : State} {q : QueueId} {b : Batch} {rest : List Batch} (ready : (s.queue q).ready = b :: rest)
include ready

/-- R111: the link and the trunk unit after a grant. -/
theorem grant_link_self (t : TrunkId) (level : Option (Fin 4)) :
    ∃ f, (s.grant t q level).link t.port = (s.link t.port).started f (.bundle (s.trunk t).nextSeq) := by
  simp only [State.grant, ready, start_link, countTrunk_link, modTrunk_link, modQueue_link]
  exact ⟨_, rfl⟩
theorem grant_trunk_self (t : TrunkId) (level : Option (Fin 4)) :
    (s.grant t q level).trunk t = (s.trunk t).grants level q b := by
  simp [State.grant, ready, Trunk.grants]
theorem grant_trunk_ne {t i : TrunkId} (level : Option (Fin 4)) (h : i ≠ t) : (s.grant t q level).trunk i = s.trunk i := by
  simp [State.grant, ready, h]
end

theorem TrunkNearlyOk.startsControl {l : Link} {k : Trunk} (h : TrunkNearlyOk l k) (up : l.up = true) (idle : l.wire = none)
    {c : ControlFrame} (head : l.control.head? = some c) : TrunkNearlyOk (l.started c.frame .control) k :=
  h.moves rfl rfl rfl (.started up fun _ => ⟨c, head, rfl⟩) (by rintro w hw; cases hw; simp)
    (fun seq => by rw [Link.sends_of_idle idle]; rfl) Iff.rfl h.table

namespace Consistent
variable {s : State}

/-- R105 to R111: a decision of the arbiter. -/
theorem trunkSelect (h : Consistent s) (t : TrunkId) : Consistent (s.trunkSelect t) := by
  have ok := h.trunk t
  rcases trunkSelect_cases s t with e | ⟨up, idle, ⟨c, head, e⟩ | ⟨b, due, e⟩ | ⟨q, level, running, room, e⟩⟩
  · rwa [e]
  · rw [e]
    refine h.of_trunk t (fun p hp => start_link_ne s c.frame .control hp) (by simp) (by simp) ?_
    rw [start_link, start_trunk]
    exact { ok.startsControl up idle head with filled := ok.filled }
  · rw [e]
    obtain ⟨f, link⟩ := resend_link_self s t b
    have isDue := List.find?_some due
    refine h.of_trunk t (fun p hp => resend_link_ne s t b hp) (by simp) (fun i hi => resend_trunk_ne s b hi) ?_
    rw [link, resend_trunk_self]
    exact { ok.resend up idle (List.mem_of_find?_eq_some due) (by simp_all) f with
            filled := by simpa [Trunk.updBundle] using ok.filled }
  · rw [e]
    cases ready : (s.queue q).ready with
    | nil => simpa [State.grant, ready] using h
    | cons b rest =>
      obtain ⟨f, link⟩ := grant_link_self ready t level
      refine h.of_trunk t (fun p hp => grant_link_ne s t q level hp) (by simp) (fun i hi => grant_trunk_ne ready level hi) ?_
      rw [link, grant_trunk_self ready]
      exact { ok.grants up idle running room level q b f with filled := by simp [Trunk.grants] }

theorem edgeSelect (h : Consistent s) (k : EdgeId) : Consistent (s.edgeSelect k) := by
  have starts : ∀ f o, EdgeOk ((s.link k.port).started f o) (s.edge.returns.get k) → Consistent (s.start k.port f o) :=
    fun f o ok => h.of_edge k (fun p hp => start_link_ne s f o hp) (by simp) (by simp) (by rw [start_link]; simpa using ok)
  rcases edgeSelect_cases s k with e | ⟨up, ⟨c, head, e⟩ | ⟨f, head, e⟩⟩
  · rwa [e]
  · rw [e]
    refine starts _ _ ⟨.started up fun _ => ⟨c, head, rfl⟩, ?_, fun seq => rfl⟩
    rintro w hw o
    cases hw
    simp at o
  · rw [e]
    refine starts _ _ ⟨.started up (by simp), ?_, fun seq => rfl⟩
    rintro w hw -
    cases hw
    exact ⟨f, head, rfl⟩

theorem select (h : Consistent s) (p : Port) : Consistent (s.select p) := by
  rcases port_cases p with ⟨k, rfl⟩ | ⟨t, rfl⟩
  · simpa using h.edgeSelect k
  · simpa using h.trunkSelect t

end Consistent

end Sys2Proof.Machine
end


section
/-! SUPPORT. The operations of the blocks that end, abort or release what is on a wire or in a window keep the invariant; and
so every command keeps it. -/

namespace Sys2Proof.Machine

/-! ### Links and return lists -/

theorem EdgeOk.relink {l l' : Link} {r r' : List Frame} (h : EdgeOk l r) (link : LinkOk l')
    (wire : ∀ w, l'.wire = some w → l.wire = some w)
    (head : ∀ w, l'.wire = some w → w.owner = .returnFrame → r'.head? = r.head?) : EdgeOk l' r' where
  link := link
  returned w hw o := by
    rw [head w hw o]
    exact h.returned w (wire w hw) o
  noBundle seq := by
    rw [← Bool.not_eq_true, Link.sends_iff]
    rintro ⟨w, hw, o⟩
    exact absurd ((l.sends_iff seq).2 ⟨w, wire w hw, o⟩) (by simp [h.noBundle])

/-- A bundle that changes where it stands does not empty the window. -/
theorem TrunkOk.updBundle {l l' : Link} {k : Trunk} {seq : Byte} {f : Bundle → Bundle} (h : TrunkOk l k)
    (nearly : TrunkNearlyOk l' (k.updBundle seq f)) : TrunkOk l' (k.updBundle seq f) :=
  { nearly with filled := by simpa [Trunk.updBundle] using h.filled }

theorem LinkOk.append {l : Link} (h : LinkOk l) (up : l.up = true) (c : ControlFrame) :
    LinkOk { l with control := l.control ++ [c] } where
  down down := by simp [up] at down
  control w hw o := by
    obtain ⟨d, hd, carried⟩ := h.control w hw o
    exact ⟨d, by simp [List.head?_append, hd], carried⟩

/-- R8, R154: an abort leaves on the wire what it does not stop. -/
@[simp] theorem Link.aborted_up (l : Link) (o : WireOwner → Bool) : (l.aborted o).up = l.up := rfl
theorem Link.aborted_wire {l : Link} {o : WireOwner → Bool} {w : OnWire} :
    (l.aborted o).wire = some w ↔ l.wire = some w ∧ o w.owner = false := by
  simp [Link.aborted, Option.filter_eq_some_iff]
theorem Link.aborted_sends (l : Link) (o : WireOwner → Bool) (seq : Byte) :
    (l.aborted o).sends seq = (l.sends seq && !o (.bundle seq)) := by
  rw [Bool.eq_iff_iff, Bool.and_eq_true, Link.sends_iff, Link.sends_iff]
  simp only [Link.aborted_wire]
  constructor
  · rintro ⟨w, ⟨hw, kept⟩, owner⟩
    exact ⟨⟨w, hw, owner⟩, by simpa [owner] using kept⟩
  · rintro ⟨⟨w, hw, owner⟩, kept⟩
    exact ⟨w, ⟨hw, by simpa [owner] using kept⟩, owner⟩

theorem LinkOk.aborted {l : Link} (h : LinkOk l) (o : WireOwner → Bool) : LinkOk (l.aborted o) where
  down down := by simp [Link.aborted, h.down down]
  control w hw owner := h.control w (Link.aborted_wire.1 hw).1 owner

/-- R13, R154: the control frame on the wire is aborted with the control list. -/
theorem LinkOk.restarted {l : Link} (h : LinkOk l) : LinkOk l.restarted where
  down down := ⟨by simp [Link.restarted, Link.aborted, h.down down], rfl⟩
  control w hw owner := by
    have := (Link.aborted_wire (l := l) (o := fun o => o == .control) (w := w)).1 hw
    simp [owner] at this

/-- R14: the control frame that was sent leaves the list. -/
theorem LinkOk.controlSent {l : Link} (h : LinkOk l) : LinkOk { l with wire := none, control := l.control.tail } where
  down down := by simp [h.down down]
  control _ hw := nomatch hw

theorem LinkOk.dead {l : Link} : LinkOk { l with up := false, wire := none, control := [] } where
  down _ := ⟨rfl, rfl⟩
  control _ hw := nomatch hw

namespace Consistent
variable {s u : State}

theorem link (h : Consistent s) (p : Port) : LinkOk (s.link p) := by
  rcases port_cases p with ⟨k, rfl⟩ | ⟨t, rfl⟩
  · exact (h.edge k).link
  · exact (h.trunk t).link

/-- Nothing but the link of one port has changed. -/
theorem of_link (h : Consistent s) (p : Port) (links : ∀ q, q ≠ p → u.link q = s.link q)
    (returns : u.edge.returns = s.edge.returns) (trunks : u.trunks = s.trunks) (link : LinkOk (u.link p))
    (up : (u.link p).up = (s.link p).up) (wire : ∀ w, (u.link p).wire = some w → (s.link p).wire = some w)
    (sends : ∀ seq, (u.link p).sends seq = (s.link p).sends seq) : Consistent u := by
  have trunk : ∀ i, u.trunk i = s.trunk i := fun i => by simp [State.trunk, trunks]
  rcases port_cases p with ⟨k, rfl⟩ | ⟨t, rfl⟩
  · refine h.of_edge k links (fun _ _ => by rw [returns]) trunk ((h.edge k).relink link wire fun _ _ _ => by rw [returns])
  · refine h.of_trunk t links returns (fun i _ => trunk i) ?_
    rw [trunk]
    exact (h.trunk t).relink link (fun w hw => (h.trunk t).noReturn w (wire w hw)) sends up

/-- R13: an accepted frame joins the control list. -/
theorem place {p : Port} (h : Consistent s) (c : ControlFrame) (accepted : s.offer p = .accepted) :
    Consistent (s.place p c) := by
  have up : (s.link p).up = true := (room_of_offer_accepted s accepted).1
  refine Consistent.select (h.of_link p (fun q hq => by simp [hq]) (by simp) (by simp) ?_ ?_ ?_ ?_) p
  · simpa using (h.link p).append up c
  · simp
  · simp
  · simp [Link.sends]

/-- R38: a return frame joins the tail of a return list. -/
theorem queueReturn {k : EdgeId} (h : Consistent s) (f : Frame) :
    Consistent (s.modEdge fun e => { e with returns := e.returns.upd k fun l => l ++ [f] }) := by
  refine h.of_edge k (by simp) (fun j hj => by simp [hj]) (by simp) ?_
  refine (h.edge k).relink (h.link k.port) (fun _ hw => hw) fun w hw o => ?_
  obtain ⟨g, hg, -⟩ := (h.edge k).returned w hw o
  simp [List.head?_append, hg]

/-- R24, R25: a return list is cut back, but not the head while it is on the wire. -/
theorem keepReturns {k : EdgeId} {kept : List Frame} (h : Consistent s)
    (head : s.sendsReturn k = true → kept.head? = (s.edge.returns.get k).head?) :
    Consistent (s.modEdge fun e => { e with returns := e.returns.set k kept }) := by
  refine h.of_edge k (by simp) (fun j hj => by simp [hj]) (by simp) ?_
  refine (h.edge k).relink (h.link k.port) (fun _ hw => hw) fun w hw o => ?_
  have hw : (s.link k.port).wire = some w := hw
  simpa using head (by simp [State.sendsReturn, hw, o])

/-! ### Link reports -/

/-- R2, R101. -/
theorem linkUp {p : Port} (h : Consistent s) (down : (s.link p).up = false) :
    Consistent ((s.modLink p fun l => { l with up := true }).unitsLinkUp p) := by
  rcases port_cases p with ⟨k, rfl⟩ | ⟨t, rfl⟩
  · obtain ⟨wire, -⟩ := (h.link k.port).down down
    simp only [State.unitsLinkUp, side_edge]
    refine h.of_edge k (fun p hp => by simp [hp]) (by simp) (by simp) ?_
    refine (h.edge k).relink ⟨by simp, by simp [wire]⟩ (by simp) fun _ _ _ => by simp
  · simp only [State.unitsLinkUp, side_trunk]
    refine h.of_trunk t (fun p hp => by simp [hp]) (by simp) (fun i hi => by simp [hi]) ?_
    simpa using (h.trunk t).linkUp down

theorem linkGoesDown_returns (s : State) (p : Port) (receiving : Bool) (k : EdgeId) :
    (s.linkGoesDown p receiving).edge.returns.get k = if k.port = p then [] else s.edge.returns.get k := by
  simp only [State.linkGoesDown, mgmtLinkDown_edge, unitsLinkDown_returns]
  cases receiving <;> simp

/-- R100, R122: the trunk unit of a port whose link goes DOWN. -/
theorem linkGoesDown_trunk_self (s : State) (t : TrunkId) (receiving : Bool) :
    (s.linkGoesDown t.port receiving).trunk t = ((s.trunk t).cutBy (s.link t.port).wire).linkDown s.now := by
  simp only [State.linkGoesDown, mgmtLinkDown_trunk, State.unitsLinkDown, side_trunk, trunkLinkDown_trunk_self,
    windowAbort_trunk_self]
  cases receiving <;> simp

theorem linkGoesDown_trunk_ne (s : State) {p : Port} {i : TrunkId} (receiving : Bool) (h : i.port ≠ p) :
    (s.linkGoesDown p receiving).trunk i = s.trunk i := by
  rcases port_cases p with ⟨k, rfl⟩ | ⟨t, rfl⟩
  · simp only [State.linkGoesDown, mgmtLinkDown_trunk, State.unitsLinkDown, side_edge]
    cases receiving <;> simp
  · have other : i ≠ t := fun e => h (congrArg _ e)
    simp only [State.linkGoesDown, mgmtLinkDown_trunk, State.unitsLinkDown, side_trunk, trunkLinkDown_trunk_ne _ other,
      windowAbort_trunk_ne _ _ other]
    cases receiving <;> simp

/-- R3, R25, R100. -/
theorem linkDown {p : Port} (h : Consistent s) (receiving : Bool) (up : (s.link p).up = true) :
    Consistent (s.linkGoesDown p receiving) := by
  have links : ∀ q, q ≠ p → (s.linkGoesDown p receiving).link q = s.link q := fun q hq => by
    rw [linkGoesDown_link, if_neg hq]
  have here : (s.linkGoesDown p receiving).link p = { s.link p with up := false, wire := none, control := [] } := by
    rw [linkGoesDown_link, if_pos rfl]
  rcases port_cases p with ⟨k, rfl⟩ | ⟨t, rfl⟩
  · refine h.of_edge k links (fun j hj => ?_) (fun i => linkGoesDown_trunk_ne s _ (edgePort_ne_trunkPort k i).symm) ?_
    · rw [linkGoesDown_returns, if_neg (by simpa [edgePort_inj] using hj)]
    · rw [here]
      exact (h.edge k).relink .dead (fun _ hw => nomatch hw) fun _ hw => nomatch hw
  · refine h.of_trunk t links (Tab.ext_get fun k => ?_)
      (fun i hi => linkGoesDown_trunk_ne s _ (by simpa [trunkPort_inj] using hi)) ?_
    · rw [linkGoesDown_returns, if_neg (edgePort_ne_trunkPort k t)]
    · rw [here, linkGoesDown_trunk_self]
      exact ((h.trunk t).cutBy up).linkDown .dead rfl s.now

/-! ### Ends of transmissions -/

/-- R14. -/
theorem controlEnds {p : Port} {w : OnWire} (h : Consistent s) (wire : (s.link p).wire = some w)
    (control : w.owner = .control) : Consistent ((s.modLink p fun l => { l with wire := none }).controlEnds p) := by
  have link : ((s.modLink p fun l => { l with wire := none }).controlEnds p).link p =
      { s.link p with wire := none, control := (s.link p).control.tail } := by
    rw [controlEnds_link]
    simp
  refine h.of_link p (fun q hq => ?_) (by simp) (by simp) ?_ ?_ ?_ ?_
  · rw [controlEnds_link, if_neg hq]
    simp [hq]
  · rw [link]
    exact (h.link p).controlSent
  · rw [link]
  · simp [link]
  · simp [link, Link.sends, wire, control]

/-- R39: the return frame that was sent leaves its list. -/
theorem returnEnds {k : EdgeId} (h : Consistent s) :
    Consistent ((s.modLink k.port fun l => { l with wire := none }).returnEnds k) := by
  refine h.of_edge k (fun p hp => by simp [hp]) (fun j hj => ?_) (by simp) ?_
  · simp [State.returnEnds, State.dropReturns, hj]
  · refine (h.edge k).relink ?_ (by simp) (by simp)
    simpa [Link.idle] using (h.link k.port).idle

/-- R113, R121: the end of a bundle's transmission. -/
theorem bundleEnds {t : TrunkId} {seq : Byte} (h : Consistent s) (on : (s.link t.port).sends seq = true) :
    Consistent ((s.modLink t.port fun l => { l with wire := none }).bundleEnds t seq) := by
  have ok := h.trunk t
  obtain ⟨c, hc, e⟩ := ok.bundle seq on
  cases found : (s.trunk t).bundles.find? fun b => b.seq == seq with
  | none => exact absurd e (by simpa using List.find?_eq_none.1 found c hc)
  | some b =>
    have hb := List.mem_of_find?_eq_some found
    have same : b.seq = seq := by simpa using List.find?_some found
    simp only [State.bundleEnds, modLink_trunk, found]
    split
    · refine h.of_trunk t (fun p hp => by simp [hp]) (by simp)
        (fun i hi => by simp [windowEmptied_trunk_ne, retire_fst_trunk_ne, hi]) ?_
      simpa [windowEmptied_trunk_self, same, Link.idle] using (ok.eraseSent on).emptied
    · rename_i outstanding
      refine h.of_trunk t (fun p hp => by simp [hp]) (by simp) (fun i hi => by simp [hi]) ?_
      have ends := ok.ends on (deadlineAfter s.now (s.trunk t).retryInterval) fun d hd ed => by
        obtain rfl := ok.window.unique hd hb (ed.trans same.symm)
        simpa using outstanding
      simpa [Link.idle] using ok.updBundle ends

theorem ownerEnds {p : Port} {w : OnWire} (h : Consistent s) (first : Bool) (wire : (s.link p).wire = some w)
    (other : w.owner ≠ .control) :
    Consistent ((s.modLink p fun l => { l with wire := none }).ownerEnds p w.owner first) := by
  unfold State.ownerEnds
  rcases port_cases p with ⟨k, rfl⟩ | ⟨t, rfl⟩
  · cases owner : w.owner with
    | control => exact absurd owner other
    | returnFrame => simpa using h.returnEnds
    | bundle seq => exact absurd ((Link.sends_iff _ seq).2 ⟨w, wire, owner⟩) (by simp [(h.edge k).noBundle])
  · cases owner : w.owner with
    | control => exact absurd owner other
    | returnFrame => exact absurd owner ((h.trunk t).noReturn w wire)
    | bundle seq => simpa using h.bundleEnds ((Link.sends_iff _ seq).2 ⟨w, wire, owner⟩)

/-! ### Acknowledgement -/

end Consistent

/-- R99: the emptied window of the one trunk unit that the step under way has touched. -/
theorem NearlyConsistent.windowEmptied {s : State} {t : TrunkId} (h : NearlyConsistent s t) : Consistent (s.windowEmptied t) := by
  have ok : TrunkOk (s.link t.port) ((s.windowEmptied t).trunk t) := by
    rw [windowEmptied_trunk_self]
    exact h.here.emptied
  refine NearlyConsistent.consistent (t := t) (h.of_trunk (by simp) (by simp) (fun i hi => windowEmptied_trunk_ne s hi) ?_) ?_
  · simpa using ok.toTrunkNearlyOk
  · simpa using ok

/-- R124: one listed sequence. -/
theorem NearlyConsistent.ackOne {t : TrunkId} {x : State × List Raise} (h : NearlyConsistent x.1 t) (seq : Byte) :
    NearlyConsistent (State.ackOne t x seq).1 t := by
  unfold State.ackOne
  split
  · exact h.of_trunk (by simp) (by simp) (by simp) (by simpa using h.here)
  · rename_i b found
    have same : b.seq = seq := by simpa using List.find?_some found
    split
    · exact h.of_trunk (by simp) (by simp) (by simp) (by simpa using h.here)
    · split
      · rename_i on
        refine h.of_trunk (by simp) (by simp) (fun i hi => by simp [hi]) ?_
        simpa using h.here.retiring (onWire_eq x.1 t seq ▸ on)
      · rename_i off
        refine h.of_trunk (by simp) (by simp) (fun i hi => retire_fst_trunk_ne x.1 b hi) ?_
        rw [onWire_eq, Bool.not_eq_true] at off
        simpa [same] using h.here.erase off

namespace Consistent
variable {s : State}

/-- R123, R124. -/
theorem takeAck (h : Consistent s) (t : TrunkId) (l : List Byte) : Consistent (s.takeAck t l) := by
  unfold State.takeAck
  split
  · exact h.same (by simp) (by simp) (by simp)
  · have acked : NearlyConsistent ((l.drop 1).foldl (State.ackOne t) (s, [])).1 t :=
      List.foldlRecOn (motive := fun x : State × List Raise => NearlyConsistent x.1 t) _ _ (h.nearly t) fun _ hx seq _ => hx.ackOne seq
    have emptied : Consistent ((((l.drop 1).foldl (State.ackOne t) (s, [])).1.raise .queueUnit
        ((l.drop 1).foldl (State.ackOne t) (s, [])).2).windowEmptied t) :=
      NearlyConsistent.windowEmptied (acked.of_trunk (by simp) (by simp) (by simp) (by simpa using acked.here))
    dsimp only
    split
    · exact emptied.trunkSelect t
    · exact emptied

/-! ### Deadlines -/

/-- R102. -/
theorem holdExpires {t : TrunkId} (h : Consistent s) (holding : (s.trunk t).state = .holding) :
    Consistent (s.holdExpires t) := by
  refine h.of_trunk t (by simp) (by simp) (fun i hi => holdExpires_trunk_ne s hi) ?_
  rw [holdExpires_trunk_self]
  simpa using (h.trunk t).holdEnds holding

/-- R118, R127: a bundle whose retry deadline runs is not on the wire. -/
theorem off_of_retryDue {t : TrunkId} {seq : Byte} {b : Bundle} (h : Consistent s) (due : s.retryDue t seq = some b) :
    (s.link t.port).sends b.seq = false := by
  unfold State.retryDue at due
  split at due
  · cases due
  · rename_i found
    split at due
    · rename_i waits
      cases due
      rw [← Bool.not_eq_true]
      intro on
      have noDeadline := ((h.trunk t).condition b (List.mem_of_find?_eq_some found)).deadline_of_sends on
      simp [noDeadline, expired] at waits
    · cases due

theorem retryExpires {t : TrunkId} {seq : Byte} {b : Bundle} (h : Consistent s) (due : s.retryDue t seq = some b) :
    Consistent (s.retryExpires t b) := by
  have off := h.off_of_retryDue due
  unfold State.retryExpires
  split
  · refine trunkSelect (NearlyConsistent.windowEmptied ((h.nearly t).of_trunk (by simp) (by simp)
      (fun i hi => by simp [abandon_fst_trunk_ne, hi]) ?_)) t
    simpa using (h.trunk t).erase off
  · refine trunkSelect (h.of_trunk t (by simp) (by simp) (fun i hi => by simp [hi]) ?_) t
    simpa using (h.trunk t).updBundle ((h.trunk t).becomesDue off)

end Consistent

/-- R87, R88: the links after a drain has ended by force, before the selector is asked. -/
def State.drainCut (s : State) (q : QueueId) : State :=
  (if s.sendsFor (s.queue q).trunk q then s.abort (s.queue q).trunk.port else s).modTrunk (s.queue q).trunk fun k =>
    { k with bundles := k.bundles.filter fun b => b.batch.queue != q }

/-- R88: a transmission for the queue is aborted with its bundle; any other goes on. -/
theorem NearlyConsistent.drainCut {s : State} (h : Consistent s) (q : QueueId) :
    NearlyConsistent (s.drainCut q) (s.queue q).trunk := by
  have ok := h.trunk (s.queue q).trunk
  unfold State.drainCut
  by_cases sends : s.sendsFor (s.queue q).trunk q = true
  · rw [if_pos sends]
    refine (h.nearly _).of_trunk (fun p hp => by simp [hp]) (by simp) (fun i hi => by simp [hi]) ?_
    obtain ⟨b, hb, on⟩ := List.any_eq_true.1 sends
    rw [onWire_eq] at on
    obtain ⟨hb, ofQueue⟩ := List.mem_filter.1 hb
    have cut := ok.releaseSent (bs := (s.trunk (s.queue q).trunk).bundles.filter fun b => b.batch.queue != q)
      List.filter_sublist fun c hc => by
        obtain ⟨hc, other⟩ := List.mem_filter.1 hc
        rw [← Bool.not_eq_true]
        intro also
        obtain rfl := ok.window.unique hc hb (Link.sends_unique also on)
        simp only [bne_iff_ne] at other
        exact other (by simpa using ofQueue)
    simpa [Link.idle] using cut
  · rw [if_neg sends]
    refine (h.nearly _).of_trunk (by simp) (by simp) (fun i hi => by simp [hi]) ?_
    have cut := ok.release (bs := (s.trunk (s.queue q).trunk).bundles.filter fun b => b.batch.queue != q)
      List.filter_sublist rfl ok.link ok.noReturn (fun seq on => by
        obtain ⟨b, hb, rfl⟩ := ok.bundle seq on
        refine ⟨b, List.mem_filter.2 ⟨hb, ?_⟩, rfl⟩
        rw [bne_iff_ne]
        intro ofQueue
        exact sends (List.any_eq_true.2 ⟨b, List.mem_filter.2 ⟨hb, by simpa using ofQueue⟩, on⟩)) fun _ _ => rfl
    simpa using cut

namespace Consistent
variable {s : State}

theorem drainExpires (h : Consistent s) (q : QueueId) : Consistent (s.drainExpires q) := by
  have cut := NearlyConsistent.drainCut h q
  unfold State.drainCut at cut
  unfold State.drainExpires
  dsimp only
  split
  · rename_i none
    have empty : (s.trunk (s.queue q).trunk).bundlesOf q = [] := by simpa using none
    have noneSent : s.sendsFor (s.queue q).trunk q = false := by simp [State.sendsFor, empty]
    have all : ((s.trunk (s.queue q).trunk).bundles.filter fun b => b.batch.queue != q) =
        (s.trunk (s.queue q).trunk).bundles := by
      simpa [Trunk.bundlesOf, List.filter_eq_self] using empty
    refine h.same (by simp [noneSent]) (by simp [noneSent]) fun t => ?_
    by_cases e : t = (s.queue q).trunk
    · subst e
      simp [noneSent, all]
    · simp [noneSent, e]
  · exact trunkSelect (NearlyConsistent.windowEmptied (cut.of_trunk (by simp) (by simp) (by simp) (by simpa using cut.here))) _

end Consistent

end Sys2Proof.Machine
end


section
/-! SUPPORT. The restart keeps the invariant of transmitters, trunk units and windows, and so every command does. -/

namespace Sys2Proof.Machine

/-! ### The restart -/

theorem Trunk.emptied_emptied (k : Trunk) : k.emptied.emptied = k.emptied := by
  by_cases empty : k.bundles = []
  · cases mode : k.state
    case holding => cases stop : k.stopRequested <;> simp [Trunk.emptied, empty, mode, stop]
    all_goals simp [Trunk.emptied, empty, mode]
  · simp [Trunk.emptied, empty]

theorem foldl_windowEmptied_trunk (i : TrunkId) (l : List TrunkId) :
    ∀ s, (l.foldl State.windowEmptied s).trunk i = if i ∈ l then (s.trunk i).emptied else s.trunk i := by
  induction l with
  | nil => simp
  | cons t rest ih =>
    intro s
    rw [List.foldl_cons, ih]
    by_cases e : i = t
    · subst e
      simp [windowEmptied_trunk_self, Trunk.emptied_emptied]
    · simp [windowEmptied_trunk_ne, e]

namespace Consistent
variable {s : State}

theorem linkLayerRestarts (h : Consistent s) (p : Port) : Consistent (s.linkLayerRestarts p) := by
  have emptied : Consistent (s.modLink p Link.restarted) := by
    refine h.of_link p (fun q hq => by simp [hq]) (by simp) (by simp) ?_ ?_ ?_ ?_
    · simpa using (h.link p).restarted
    · simp [Link.restarted]
    · intro w hw
      exact (Link.aborted_wire.1 (by simpa [Link.restarted] using hw)).1
    · intro seq
      calc ((s.modLink p Link.restarted).link p).sends seq
          = ((s.link p).aborted fun o => o == .control).sends seq := by rw [modLink_link_self]; rfl
        _ = (s.link p).sends seq := by rw [Link.aborted_sends]; simp
  unfold State.linkLayerRestarts
  dsimp only
  split
  · exact emptied.same (by simp) (by simp) (by simp)
  · exact emptied

/-- R40: the edge ports send no return frame, and their lists are empty. -/
theorem edgeUnitRestarts (h : Consistent s) : Consistent s.edgeUnitRestarts := by
  have link : ∀ p, s.edgeUnitRestarts.link p = (s.link p).aborted fun o => o == .returnFrame := fun p => by
    simp [State.edgeUnitRestarts, State.link]
  rw [consistent_iff]
  refine ⟨fun k => ?_, fun t => ?_⟩
  · rw [link]
    refine (h.edge k).relink ((h.link _).aborted _) (fun w hw => (Link.aborted_wire.1 hw).1) fun w hw o => ?_
    simpa [o] using (Link.aborted_wire.1 hw).2
  · rw [link, show s.edgeUnitRestarts.trunk t = s.trunk t by simp [State.edgeUnitRestarts, State.trunk]]
    exact (h.trunk t).relink ((h.link _).aborted _) (fun w hw => (h.trunk t).noReturn w (Link.aborted_wire.1 hw).1)
      (fun seq => by simp [Link.aborted_sends]) rfl

/-- R94, R114: no transmitter sends a bundle, and every window is empty. -/
theorem queueUnitRestarts (h : Consistent s) : Consistent s.queueUnitRestarts := by
  have link : ∀ p, s.queueUnitRestarts.link p = (s.link p).aborted WireOwner.isBundle := fun p => by
    unfold State.queueUnitRestarts
    rw [foldl_windowEmptied]
    simp [State.link]
  have silent : ∀ p seq, ((s.link p).aborted WireOwner.isBundle).sends seq = false := fun p seq => by
    simp [Link.aborted_sends, WireOwner.isBundle]
  rw [consistent_iff]
  refine ⟨fun k => ?_, fun t => ?_⟩
  · rw [link]
    refine (h.edge k).relink ((h.link _).aborted _) (fun w hw => (Link.aborted_wire.1 hw).1) fun _ _ _ => ?_
    unfold State.queueUnitRestarts
    rw [foldl_windowEmptied]
    simp
  · have trunk : s.queueUnitRestarts.trunk t = ({ s.trunk t with bundles := [] } : Trunk).emptied := by
      unfold State.queueUnitRestarts
      rw [foldl_windowEmptied_trunk]
      simp [State.trunk]
    rw [link, trunk]
    refine ((h.trunk t).release (l' := (s.link t.port).aborted _) (List.nil_sublist _) rfl ((h.link _).aborted _)
      (fun w hw => (h.trunk t).noReturn w (Link.aborted_wire.1 hw).1) (fun seq on => ?_) (by simp)).emptied
    simp [silent] at on

/-- R116, R135: the trunk port sends no bundle, and its window is empty. -/
theorem trunkUnitRestarts (h : Consistent s) (t : TrunkId) : Consistent (s.trunkUnitRestarts t) := by
  have link : (s.trunkUnitRestarts t).link t.port = (s.link t.port).aborted WireOwner.isBundle := by
    simp [State.trunkUnitRestarts, State.link]
  refine h.of_trunk t (fun p hp => ?_) (by simp [State.trunkUnitRestarts]) (fun i hi => ?_) ?_
  · simp [State.trunkUnitRestarts, State.link, hp]
  · simp [State.trunkUnitRestarts, State.trunk, hi]
  · rw [link, show (s.trunkUnitRestarts t).trunk t = (s.trunk t).restarted (s.link t.port).up by
      simp [State.trunkUnitRestarts, State.trunk]]
    refine (h.trunk t).restarted ((h.link _).aborted _) (fun w hw => (h.trunk t).noReturn w (Link.aborted_wire.1 hw).1)
      fun seq => ?_
    simp [Link.aborted_sends, WireOwner.isBundle]

theorem blockRestarts (h : Consistent s) (b : RestartBlock) : Consistent (s.blockRestarts b) := by
  cases b with
  | linkLayer p => exact h.linkLayerRestarts p
  | edgeUnit => exact h.edgeUnitRestarts
  | queueUnit => exact h.queueUnitRestarts
  | trunkUnit t => exact h.trunkUnitRestarts t
  | steeringUnit | cellPool | managementUnit | eventUnit | counterBlock =>
    exact h.same (by simp [State.blockRestarts]) (by simp [State.blockRestarts]) (by simp [State.blockRestarts])

end Consistent

/-! ### Every command -/

theorem consistent_closed : StepClosed Consistent where
  same h u := by
    obtain ⟨-, links, returns, trunks, -, -⟩ := u
    exact h.same (by simp [State.link, links]) returns (by simp [State.trunk, trunks])
  select p h := h.select p
  place c h accepted := h.place c accepted
  queueReturn f h _ := h.queueReturn f
  keepReturns h _ head := h.keepReturns head
  linkUp h down := h.linkUp down
  linkDown receiving h up := h.linkDown receiving up
  controlEnds h wire control := h.controlEnds wire control
  ownerEnds first h wire other := h.ownerEnds first wire other
  takeAck t l h := h.takeAck t l
  drainExpires q h := h.drainExpires q
  holdExpires h holding := h.holdExpires holding
  retryExpires h due := h.retryExpires due
  trunkEnable t h := h.of_trunk t (by simp) (by simp) (fun i hi => by simp [hi]) (by simpa using (h.trunk t).enable)
  trunkDisable t h := h.of_trunk t (by simp) (by simp) (fun i hi => by simp [hi]) (by simpa using (h.trunk t).disable)
  trunkItem t f h write :=
    h.of_trunk t (by simp) (by simp) (fun i hi => by simp [hi]) (by simpa using (h.trunk t).item (write _))
  windowSize {s t v} h disabled low high :=
    h.of_trunk t (by simp) (by simp) (fun i hi => by simp [hi]) (by simpa using (h.trunk t).resize disabled low high)
  blockRestarts b h := h.blockRestarts b

/-- R155: when a hard reset ends, every link is DOWN and every window empty. -/
theorem consistent_afterHardReset (straps : BitVec 6) (l : List Instr) : Consistent (State.afterHardReset straps l) := by
  have link : ∀ p, (State.afterHardReset straps l).link p = .reset := fun p => by simp [State.link, State.afterHardReset]
  have down : LinkOk Link.reset := ⟨fun _ => ⟨rfl, rfl⟩, fun _ hw => nomatch hw⟩
  rw [consistent_iff]
  refine ⟨fun k => ?_, fun t => ?_⟩
  · rw [link]
    exact ⟨down, fun _ hw => (nomatch hw), fun _ => rfl⟩
  · rw [link, show (State.afterHardReset straps l).trunk t = .reset by simp [State.trunk, State.afterHardReset]]
    exact { link := down, noReturn := fun _ hw => (nomatch hw), bundle := fun _ on => (nomatch on)
            table := by simp [Trunk.tableBase, Trunk.reset, Link.reset], window := by simp [Trunk.windowOk, Trunk.reset]
            condition := by simp [Trunk.reset], filled := by simp [Trunk.reset] }

theorem exec_trunkInv (c : Instr) (s t : State) (h : TrunkInv s) (ht : exec c s = .next t) : TrunkInv t := by
  by_cases reset : ∃ straps, c = .hardReset straps
  · obtain ⟨straps, rfl⟩ := reset
    cases ht
    exact fun _ => Consistent.same (consistent_afterHardReset straps s.pending) (fun _ => rfl) rfl fun _ => rfl
  · by_cases low : c = .resetNLow
    · subst low
      cases ht
      exact fun high => nomatch high
    · intro high
      cases before : s.resetLow
      · obtain ⟨u, hexec, hu⟩ := consistent_closed.exec c (fun straps e => reset ⟨straps, e⟩) low (h before)
        rw [hexec, live_of_high before] at ht
        cases ht
        exact hu
      · obtain ⟨u, hexec, -⟩ := (pending_closed s.pending).exec c (fun straps e => reset ⟨straps, e⟩) low rfl
        rw [hexec, live_of_low before] at ht
        cases ht
        exact h high

/-- Settles O58: what holds of each port by itself is closed under the blocks' operations; while RESET_N is low the part does
nothing. -/
theorem trunksAndWindowsKept : Obligations.TrunksAndWindowsKept :=
  fun _ _ h ht => kept_by_step (P := TrunkInv) (fun _ _ h => h) exec_trunkInv h ht

end Sys2Proof.Machine
end


section
/-! SUPPORT. Frames that arrive (R4 to R12, R36, R37, R123, R124, R136, R137). -/

namespace Sys2Proof.Machine

/-! ### Receptions -/

theorem exec_receptionAborted {p : Port} {s : State} (high : s.resetLow = false) :
    exec (.receptionAborted p) s = .next (if (s.link p).up then s.countPort p .aborted 1 else s) := live_of_high high _

theorem exec_frameArrival {p : Port} {l : List Byte} {s : State} (high : s.resetLow = false) :
    exec (.frameArrival p l) s = .next (if (s.link p).up then s.arrive p l else s) := live_of_high high _

/-- R9: a valid frame is counted and dispatched. -/
theorem exec_frameArrival_ok {p : Port} {l : List Byte} {f : Frame} {s : State} (high : s.resetLow = false)
    (up : (s.link p).up = true) (valid : validate l = .ok f) :
    exec (.frameArrival p l) s = .next ((s.countPort p .receiveGood 1).dispatch p f) := by
  rw [exec_frameArrival high, if_pos up, State.arrive, valid]

theorem dispatch_mgmt {s : State} {p : Port} {f : Frame} (kind : f.kind = 0x04) : s.dispatch p f = s.dispatchMgmt p f :=
  if_pos kind
theorem dispatch_ack {s : State} {p : Port} {f : Frame} (kind : f.kind = 0x03) : s.dispatch p f = s.dispatchAck p f := by
  simp [State.dispatch, kind, kindMgmt, kindAck]
theorem dispatch_data {s : State} {p : Port} {f : Frame} (kind : f.kind = 0x01) : s.dispatch p f = s.dispatchData p f := by
  simp [State.dispatch, kind, kindMgmt, kindAck]

/-! ### Bytes and the check -/

theorem be16_append (a b : Byte) : be16 (a ++ b) = [a, b] := by
  have high : (a ++ b).extractLsb' 8 8 = a := BitVec.extractLsb'_append_eq_left
  have low : (a ++ b).extractLsb' 0 8 = b := BitVec.extractLsb'_append_eq_right
  exact congrArg₂ List.cons high (congrArg₂ List.cons low rfl)

theorem be32_append (a b c d : Byte) : be32 (a ++ b ++ c ++ d) = [a, b, c, d] := by
  have first : (a ++ b ++ c ++ d).extractLsb' 24 8 = a :=
    calc (a ++ b ++ c ++ d).extractLsb' 24 8
        = (a ++ b ++ c).extractLsb' 16 8 := BitVec.extractLsb'_append_eq_of_le (by decide)
      _ = (a ++ b).extractLsb' 8 8 := BitVec.extractLsb'_append_eq_of_le (by decide)
      _ = a := BitVec.extractLsb'_append_eq_left
  have second : (a ++ b ++ c ++ d).extractLsb' 16 8 = b :=
    calc (a ++ b ++ c ++ d).extractLsb' 16 8
        = (a ++ b ++ c).extractLsb' 8 8 := BitVec.extractLsb'_append_eq_of_le (by decide)
      _ = (a ++ b).extractLsb' 0 8 := BitVec.extractLsb'_append_eq_of_le (by decide)
      _ = b := BitVec.extractLsb'_append_eq_right
  have third : (a ++ b ++ c ++ d).extractLsb' 8 8 = c :=
    calc (a ++ b ++ c ++ d).extractLsb' 8 8
        = (a ++ b ++ c).extractLsb' 0 8 := BitVec.extractLsb'_append_eq_of_le (by decide)
      _ = c := BitVec.extractLsb'_append_eq_right
  have last : (a ++ b ++ c ++ d).extractLsb' 0 8 = d := BitVec.extractLsb'_append_eq_right
  exact congrArg₂ List.cons first (congrArg₂ List.cons second (congrArg₂ List.cons third (congrArg₂ List.cons last rfl)))

/-- R6: the register shifts out its most significant bit. -/
theorem crcShift_eq : crcShift = fun x : Half => if x.getLsbD 15 then (x <<< 1) ^^^ 0x1021 else x <<< 1 := by
  funext x
  simp [crcShift, BitVec.msb_eq_getLsbD_last]

theorem crc_append (l : List Byte) (b : Byte) : crc (l ++ [b]) =
    Nat.repeat (fun x : Half => if x.getLsbD 15 then (x <<< 1) ^^^ 0x1021 else x <<< 1) 8
      (crc l ^^^ (b.setWidth 16 <<< 8)) := by
  rw [crc, List.foldl_append, ← crcShift_eq]
  rfl

/-! ### Which bytes are a valid frame -/

theorem validate_ok_iff (l : List Byte) (f : Frame) : validate l = .ok f ↔
    (12 ≤ l.length ∧ l.length = 12 + (halfAt l 8).toNat ∧ (byteAt l 0 = 0x04 → 4 ≤ (halfAt l 8).toNat) ∧
      l.length ≤ 252 ∧ crc (l.take (l.length - 2)) = halfAt l (l.length - 2) ∧
      (byteAt l 0 = 0x01 ∨ byteAt l 0 = 0x03 ∨ byteAt l 0 = 0x04) ∧ halfAt l 4 ≠ 0x0000 ∧ halfAt l 4 ≠ 0xFFFF ∧
      f = Frame.ofBytes l) := by
  have fields : (Frame.ofBytes l).kind = byteAt l 0 ∧ (Frame.ofBytes l).src = halfAt l 4 := ⟨rfl, rfl⟩
  simp only [validate, fields, kindMgmt, kindData, kindAck, Config.noNode, Config.broadcast]
  split
  · rename_i bad
    refine iff_of_false (by simp) fun ⟨long, size, mgmt, _⟩ => ?_
    rcases bad with short | other | ⟨kind, few⟩
    · omega
    · exact other size
    · exact absurd (mgmt kind) (by omega)
  · rename_i sized
    have shape : 12 ≤ l.length ∧ l.length = 12 + (halfAt l 8).toNat ∧ (byteAt l 0 = 0x04 → 4 ≤ (halfAt l 8).toNat) := by
      refine ⟨?_, ?_, fun kind => ?_⟩ <;> by_contra bad
      · exact sized (.inl (by omega))
      · exact sized (.inr (.inl bad))
      · exact sized (.inr (.inr ⟨kind, by omega⟩))
    split <;> [skip; split <;> [skip; split <;> [skip; split]]]
    · rename_i oversize
      exact iff_of_false (by simp) fun ⟨_, _, _, fits, _⟩ => by omega
    · rename_i check
      exact iff_of_false (by simp) fun ⟨_, _, _, _, good, _⟩ => check good
    · rename_i kind
      exact iff_of_false (by simp) fun ⟨_, _, _, _, _, good, _⟩ => kind good
    · rename_i source
      refine iff_of_false (by simp) fun ⟨_, _, _, _, _, _, node, broadcast, _⟩ => ?_
      exact source.elim node broadcast
    · rename_i fits check kind source
      obtain ⟨node, broadcast⟩ := not_or.1 source
      simp only [Except.ok.injEq]
      constructor
      · rintro rfl
        exact ⟨shape.1, shape.2.1, shape.2.2, by omega, not_not.1 check, not_not.1 kind, node, broadcast, rfl⟩
      · rintro ⟨-, -, -, -, -, -, -, -, rfl⟩
        rfl

/-- R9: the tests in their order, each with its counter. -/
theorem arrive_eq (s : State) (p : Port) (l : List Byte) : s.arrive p l =
    if l.length < 12 ∨ l.length ≠ 12 + (halfAt l 8).toNat ∨ (byteAt l 0 = 0x04 ∧ (halfAt l 8).toNat < 4) then
      s.countPort p .length 1
    else if 252 < l.length then s.countPort p .oversize 1
    else if crc (l.take (l.length - 2)) ≠ halfAt l (l.length - 2) then s.countPort p .badCheck 1
    else if byteAt l 0 ≠ 0x01 ∧ byteAt l 0 ≠ 0x03 ∧ byteAt l 0 ≠ 0x04 then s.countPort p .badKind 1
    else if halfAt l 4 = 0x0000 ∨ halfAt l 4 = 0xFFFF then s.countPort p .badSource 1
    else (s.countPort p .receiveGood 1).dispatch p (Frame.ofBytes l) := by
  have fields : (Frame.ofBytes l).kind = byteAt l 0 ∧ (Frame.ofBytes l).src = halfAt l 4 := ⟨rfl, rfl⟩
  have kinds : (byteAt l 0 ≠ 0x01 ∧ byteAt l 0 ≠ 0x03 ∧ byteAt l 0 ≠ 0x04) ↔
      ¬ (byteAt l 0 = 0x01 ∨ byteAt l 0 = 0x03 ∨ byteAt l 0 = 0x04) := by simp only [not_or, ne_eq]
  simp only [kinds, State.arrive, validate, fields, kindMgmt, kindData, kindAck, Config.noNode, Config.broadcast]
  split_ifs <;> rfl

/-- Settles O9: the byte fields by definition, the check by its recursion, and the tests one by one. -/
theorem receiveValidation : Obligations.ReceiveValidation := by
  refine ⟨fun _ _ => ⟨rfl, rfl, rfl⟩, fun a b c d => ⟨be16_append a b, be32_append a b c d⟩, fun _ => ⟨rfl, rfl, rfl⟩, rfl,
    crc_append, validate_ok_iff, fun p l s high down => ?_, fun p l s high up => ?_⟩
  · rw [exec_receptionAborted high, exec_frameArrival high, down]
    exact ⟨rfl, rfl⟩
  · rw [exec_receptionAborted high, exec_frameArrival high, if_pos up, if_pos up, arrive_eq]
    exact ⟨rfl, rfl⟩

end Sys2Proof.Machine
end


section
/-! SUPPORT. Where a valid frame goes (R10 to R12, R26 to R30, R36, R37, R123, R124, R136, R137). -/

namespace Sys2Proof.Machine

/-! ### Management frames -/

/-- R18, R19: the code of IDENTIFY. -/
theorem ofCode_eq_identify (c : Byte) : RequestKind.ofCode c = some .identify ↔ c = 0x01 := by
  constructor
  · intro h
    unfold RequestKind.ofCode at h
    split at h <;> simp_all [BitVec.toNat_eq]
  · rintro rfl
    rfl

/-- R136, R137: what becomes of a request that is handed over. -/
theorem requestArrives_room {s : State} {r : Request} (room : s.mgmt.requests.length < 4) :
    s.requestArrives r = s.modMgmt fun m => { m with requests := m.requests ++ [r] } := if_pos room
theorem requestArrives_dropped {s : State} {r : Request} (full : 4 ≤ s.mgmt.requests.length) (known : s.mgmt.overflow = true) :
    s.requestArrives r = s.countMgmt .mgmtDropped 1 := by
  rw [State.requestArrives, if_neg (by simpa [Config.requestQueueMax] using full)]
  exact if_pos known
theorem requestArrives_overflow {s : State} {r : Request} (full : 4 ≤ s.mgmt.requests.length)
    (new : s.mgmt.overflow = false) : s.requestArrives r =
      ((s.countMgmt .mgmtDropped 1).modMgmt fun m => { m with overflow := true }).raise .managementUnit
        [raiseOf .mgmtOverflow r.port.val r.src.toNat] := by
  rw [State.requestArrives, if_neg (by simpa [Config.requestQueueMax] using full)]
  exact if_neg (by simp [new])

/-- Settles O10: the dispatch by kind, then the three fates of a request. -/
theorem managementFrameArrival : Obligations.ManagementFrameArrival := by
  intro p l f s high up valid kind
  simp only [exec_frameArrival_ok high up valid, dispatch_mgmt kind, State.dispatchMgmt, ofCode_eq_identify, countPort_ownAddress,
    Config.broadcast]
  refine ⟨fun notOwn notAll => ?_, fun taken => ?_⟩
  · rw [if_neg (not_or.2 ⟨notOwn, notAll⟩)]
  · rw [if_pos taken]
    refine ⟨fun room => ?_, fun full known => ?_, fun full new => ?_⟩
    · rw [requestArrives_room (by simpa using room)]
      rfl
    · rw [requestArrives_dropped (by simpa using full) (by simpa using known)]
    · rw [requestArrives_overflow (by simpa using full) (by simpa using new)]
      rfl

/-! ### Acknowledgements -/

/-- Settles O11: the dispatch of an ACK at each kind of port, reason by reason. -/
theorem ackDropped : Obligations.AckDropped := by
  refine ⟨fun k l f s high up valid kind => ?_, fun t l f s high up valid kind => ?_⟩
  · simp only [exec_frameArrival_ok high up valid, dispatch_ack kind, State.dispatchAck, side_edge]
    cases enabled : s.edge.enabled.get k
    · simp [enabled]
    · by_cases own : f.dst = s.ownAddress <;> simp [enabled, own]
  · simp only [exec_frameArrival_ok high up valid, dispatch_ack kind, State.dispatchAck, side_trunk]
    refine ⟨fun disabled => ?_, fun enabled other => ?_, fun enabled own malformed => ?_⟩
    · simp [disabled]
    · simp [enabled, other]
    · have bad : ackMalformed f.payload = true := by
        simp only [ackMalformed, Bool.or_eq_true, List.isEmpty_iff, beq_iff_eq, decide_eq_true_eq, bne_iff_ne]
        rcases malformed with e | e | e | e
        · exact .inl (.inl (.inl (List.length_eq_zero_iff.1 e)))
        · exact .inl (.inl (.inr (by simp [e])))
        · exact .inl (.inr e)
        · exact .inr e
      simp [enabled, own, State.takeAck, bad]

section
variable (t : TrunkId) (x : State × List Raise) (seq : Byte)

/-- R124: a sequence that is not in the window, or RETIRING there, is stale. -/
theorem ackOne_unknown (unknown : ∀ b ∈ (x.1.trunk t).bundles, b.seq ≠ seq) :
    State.ackOne t x seq = (x.1.countTrunk t .staleAck 1, x.2) := by
  have none : (x.1.trunk t).bundles.find? (fun b => b.seq == seq) = none := by simpa [List.find?_eq_none] using unknown
  rw [State.ackOne, none]

variable {b : Bundle} (found : (x.1.trunk t).bundles.find? (fun b => b.seq == seq) = some b)
include found
theorem ackOne_retiring (retiring : b.retiring = true) : State.ackOne t x seq = (x.1.countTrunk t .staleAck 1, x.2) := by
  rw [State.ackOne, found]
  exact if_pos retiring
theorem ackOne_onWire (outstanding : b.retiring = false) (sending : x.1.onWire t seq = true) : State.ackOne t x seq =
    (x.1.modTrunk t fun k => k.updBundle seq fun x => { x with retiring := true }, x.2) := by
  rw [State.ackOne, found]
  simp [outstanding, sending]
theorem ackOne_released (outstanding : b.retiring = false) (idle : x.1.onWire t seq = false) : State.ackOne t x seq =
    ((x.1.retire t b).1, x.2 ++ (x.1.retire t b).2) := by
  rw [State.ackOne, found]
  simp [outstanding, idle]
end

/-- R99: an emptied window stays as it is. -/
theorem windowEmptied_bundles (s : State) (t : TrunkId) : ((s.windowEmptied t).trunk t).bundles = (s.trunk t).bundles := by
  rw [windowEmptied_trunk_self]
  unfold Trunk.emptied
  split
  · split <;> rfl
  · rfl

/-- Settles O12: one sequence by the four cases of the window, and the list by the fold over it. -/
theorem ackTakesListedSequences : Obligations.AckTakesListedSequences := by
  refine ⟨fun s t seq => Link.sends_iff _ seq, fun t s es seq => ⟨ackOne_unknown t (s, es) seq, fun b found =>
    ⟨ackOne_retiring t (s, es) seq found, ackOne_onWire t (s, es) seq found, ackOne_released t (s, es) seq found⟩⟩,
    fun t l f s high up valid kind enabled own low upper size => ⟨_, rfl, ?_⟩⟩
  have good : ackMalformed f.payload = false := by
    have filled : f.payload.isEmpty = false := by
      rw [List.isEmpty_eq_false_iff, ← List.length_pos_iff]
      omega
    simp [ackMalformed, filled]
    omega
  simp only [exec_frameArrival_ok high up valid, dispatch_ack kind, State.dispatchAck, side_trunk, countPort_trunk,
    countPort_ownAddress, if_neg enabled, own, ne_eq, not_true, if_false, State.takeAck, good, List.drop_one,
    windowEmptied_bundles, raise_trunk]
  rfl

/-! ### Learning -/

/-- R30: filling a position of a directory leaves the full-refusal flag. -/
theorem putEntry_some (e : Edge) (i : DirPos) (d : DirEntry) :
    e.putEntry i (some d) = { e with directory := e.directory.set i (some d) } := by
  have kept : (e.full && !(e.directory.set i (some d)).list.all Option.isSome) = false := by
    cases full : e.full
    · rfl
    · have every : (e.directory.set i (some d)).list.all Option.isSome = true := by
        rw [all_isSome_iff]
        intro j
        rw [Tab.get_set]
        split
        · rfl
        · exact (full_iff e).1 full j
      simp [every]
  simp [Edge.putEntry, Edge.setDirectory, kept]

section
variable {s : State} {k : EdgeId} {src : Half}

/-- R28: what learning does with an address that the directory holds. -/
theorem learn_pinned {i : DirPos} {d : DirEntry} (found : s.edge.lookup src = some (i, d)) (pinned : d.origin = .pinned) :
    s.learn k src = if d.port = k then s else s.countPort k.port .pinnedMismatch 1 := by
  rw [State.learn, found]
  simp [pinned]
theorem learn_learned {i : DirPos} {d : DirEntry} (found : s.edge.lookup src = some (i, d)) (learned : d.origin = .learned) :
    s.learn k src =
      if d.port = k then s.modEdge fun e => e.putEntry i (some { d with port := k, lastSeen := e.seconds })
      else (s.modEdge fun e => e.putEntry i (some { d with port := k, lastSeen := e.seconds })).raise .edgeUnit
        [raiseOf .nodeMoved k.val src.toNat] := by
  rw [State.learn, found]
  simp [learned]

/-- R29, R30: what learning does with a new address. -/
theorem learn_free {i : DirPos} (new : s.edge.lookup src = none) (free : s.edge.freePosition = some i) : s.learn k src =
    s.modEdge fun e => e.putEntry i (some { addr := src, port := k, origin := .learned, lastSeen := e.seconds }) := by
  rw [State.learn, new, free]
theorem learn_full (new : s.edge.lookup src = none) (full : s.edge.freePosition = none) : s.learn k src =
    if s.edge.fullRefusal then s.countPort k.port .learnRefused 1
    else ((s.countPort k.port .learnRefused 1).modEdge fun e => { e with fullRefusal := true }).raise .edgeUnit
      [raiseOf .directoryFull k.val src.toNat] := by
  rw [State.learn, new, full]
end

/-- Settles O14: the search by what it finds, the dispatch by the admin state, and learning case by case. -/
theorem edgeDataIsLearned : Obligations.EdgeDataIsLearned := by
  refine ⟨fun e addr => ⟨fun _ _ => lookup_some, fun none _ _ => lookup_none none, fun _ => freePosition_some,
    freePosition_none⟩, fun k l f s high up valid kind => ?_, fun k src s => ⟨fun i d found => ⟨?_, ?_, ?_, ?_⟩, ?_, ?_, ?_⟩⟩
  · simp only [exec_frameArrival_ok high up valid, dispatch_data kind, State.dispatchData, side_edge, countPort_edge]
    exact ⟨fun disabled => by simp [disabled], fun enabled => by simp [enabled]⟩
  · intro pinned same
    rw [learn_pinned found pinned, if_pos same]
  · intro pinned other
    rw [learn_pinned found pinned, if_neg other]
  · rintro learned rfl
    rw [learn_learned found learned, if_pos rfl, State.modEdge, putEntry_some]
  · intro learned other
    rw [learn_learned found learned, if_neg other, State.modEdge, putEntry_some]
    rfl
  · intro new i free
    rw [learn_free new free, State.modEdge, putEntry_some]
  · intro new full known
    rw [learn_full new full, if_pos known]
  · intro new full first
    rw [learn_full new full, first]
    rfl

/-! ### The return path -/

/-- R23: a port counter says nothing of where frames can be returned to. -/
theorem countPort_returnTarget (s : State) (p : Port) (c : PortCounter) (n : Nat) (k : EdgeId) :
    (s.countPort p c n).returnTarget k = s.returnTarget k := by simp [State.returnTarget]

theorem returnTarget_iff (s : State) (k : EdgeId) :
    s.returnTarget k = true ↔ s.edge.enabled.get k = true ∧ (s.link k.port).up = true := by simp [State.returnTarget]

/-- R37: a broadcast goes to every target in port order, and is dropped where there is none. -/
theorem returnPath_broadcast {s : State} {t : TrunkId} {f : Frame} (all : f.dst = 0xFFFF) : s.returnPath t f =
    if s.returnTargets = [] then s.countPort t.port .notDeliverable 1
    else s.returnTargets.foldl (State.returnAdmit t f) s := by
  rw [State.returnPath, if_pos (show f.dst = Config.broadcast from all)]
  cases s.returnTargets <;> simp

theorem returnPath_unknown {s : State} {t : TrunkId} {f : Frame} (one : f.dst ≠ 0xFFFF) (new : s.edge.lookup f.dst = none) :
    s.returnPath t f = s.countPort t.port .notDeliverable 1 := by
  rw [State.returnPath, if_neg (show f.dst ≠ Config.broadcast from one), new]

theorem returnPath_known {s : State} {t : TrunkId} {f : Frame} {i : DirPos} {d : DirEntry} (one : f.dst ≠ 0xFFFF)
    (found : s.edge.lookup f.dst = some (i, d)) : s.returnPath t f =
      if s.returnTarget d.port then State.returnAdmit t f s d.port else s.countPort t.port .notDeliverable 1 := by
  rw [State.returnPath, if_neg (show f.dst ≠ Config.broadcast from one), found]

/-- Settles O19: the drops of R12 in order, then the return path by destination. -/
theorem trunkDataIsReturned : Obligations.TrunkDataIsReturned := by
  rintro t l f s u high up valid kind rfl
  simp only [exec_frameArrival_ok high up valid, dispatch_data kind, State.dispatchData, side_trunk, countPort_trunk,
    countPort_ownAddress]
  refine ⟨fun disabled => by simp [disabled], fun enabled => ?_⟩
  simp only [enabled, Bool.not_true, Bool.false_eq_true, if_false]
  refine ⟨fun own => by simp only [own, if_true], fun other one => ?_, fun other all => ?_⟩
  · simp only [other, if_false]
    refine ⟨fun new => ?_, fun i d found noTarget => ?_, fun i d found enabled up => ?_⟩
    · rw [returnPath_unknown one (by simpa using new)]
    · rw [returnPath_known one (by simpa using found), if_neg]
      rwa [countPort_returnTarget, returnTarget_iff]
    · rw [returnPath_known one (by simpa using found), if_pos]
      rw [countPort_returnTarget, returnTarget_iff]
      exact ⟨enabled, up⟩
  · simp only [other, if_false, returnPath_broadcast all]
    have targets : (s.countPort t.port .receiveGood 1).returnTargets =
        ([0, 1, 2, 3, 4, 5, 6, 7] : List EdgeId).filter fun (k : EdgeId) => s.edge.enabled.get k && (s.link k.port).up :=
      rfl
    have empty : (s.countPort t.port .receiveGood 1).returnTargets = [] ↔
        ∀ k : EdgeId, ¬ (s.edge.enabled.get k = true ∧ (s.link k.port).up = true) := by
      simp [State.returnTargets, List.filter_eq_nil_iff, countPort_returnTarget, returnTarget_iff]
    refine ⟨fun none => by rw [if_pos (empty.2 none)], fun ⟨k, hk⟩ => ?_⟩
    rw [if_neg fun none => empty.1 none k hk, targets]

end Sys2Proof.Machine
end


section
/-! SUPPORT. Transmitters: what a selector starts, what a grant and a resend change, what the end of a transmission does
(R7, R8, R14, R16, R39, R105 to R113, R117, R119, R121). -/

namespace Sys2Proof.Machine

/-! ### Window base and span -/

/-- R117: the base is the sequence of the oldest OUTSTANDING bundle. -/
theorem base_of_oldest {k : Trunk} {before after : List Bundle} {b : Bundle} (window : k.bundles = before ++ b :: after)
    (older : ∀ x ∈ before, x.retiring = true) (outstanding : b.retiring = false) : k.base = b.seq := by
  have noneBefore : before.find? (fun b => !b.retiring) = none := by simpa [List.find?_eq_none] using older
  simp [Trunk.base, window, List.find?_append, noneBefore, outstanding]

theorem base_of_none {k : Trunk} (retiring : ∀ b ∈ k.bundles, b.retiring = true) : k.base = k.nextSeq := by
  have noneLeft : k.bundles.find? (fun b => !b.retiring) = none := by simpa [List.find?_eq_none] using retiring
  simp [Trunk.base, noneLeft]

/-! ### Selectors -/

section
variable {s : State} {k : EdgeId} (up : (s.link k.port).up = true) (idle : (s.link k.port).wire = none)
include up idle

theorem edgeSelect_control {c : ControlFrame} {rest : List ControlFrame} (list : (s.link k.port).control = c :: rest) :
    s.edgeSelect k = s.start k.port c.frame .control := by
  rw [State.edgeSelect, if_pos ((free_iff s _).2 ⟨up, idle⟩), list]
theorem edgeSelect_return {f : Frame} {rest : List Frame} (noControl : (s.link k.port).control = [])
    (list : s.edge.returns.get k = f :: rest) : s.edgeSelect k = s.start k.port f .returnFrame := by
  rw [State.edgeSelect, if_pos ((free_iff s _).2 ⟨up, idle⟩), noControl, list]
theorem edgeSelect_nothing (noControl : (s.link k.port).control = []) (empty : s.edge.returns.get k = []) :
    s.edgeSelect k = s := by
  rw [State.edgeSelect, if_pos ((free_iff s _).2 ⟨up, idle⟩), noControl, empty]
end

section
variable {s : State} {t : TrunkId} (up : (s.link t.port).up = true) (idle : (s.link t.port).wire = none)
include up idle

theorem trunkSelect_control {c : ControlFrame} {rest : List ControlFrame} (list : (s.link t.port).control = c :: rest) :
    s.trunkSelect t = s.start t.port c.frame .control := by
  rw [State.trunkSelect, if_pos ((free_iff s _).2 ⟨up, idle⟩), list]

variable (noControl : (s.link t.port).control = [])
include noControl

/-- R105: with no control frame, a trunk unit in RUNNING or STOPPING sends a due bundle, or may grant. -/
theorem trunkSelect_stopped (stopped : ¬ ((s.trunk t).state = .running ∨ (s.trunk t).state = .stopping)) :
    s.trunkSelect t = s := by
  rw [State.trunkSelect, if_pos ((free_iff s _).2 ⟨up, idle⟩), noControl]
  exact if_neg stopped

variable (sends : (s.trunk t).state = .running ∨ (s.trunk t).state = .stopping)
include sends

theorem trunkSelect_due {b : Bundle} (due : (s.trunk t).oldestDue = some b) : s.trunkSelect t = s.resend t b := by
  rw [State.trunkSelect, if_pos ((free_iff s _).2 ⟨up, idle⟩), noControl]
  simp only [sends, due, if_true]
theorem trunkSelect_noneDue (noneDue : (s.trunk t).oldestDue = none) : s.trunkSelect t = s.grantNext t := by
  rw [State.trunkSelect, if_pos ((free_iff s _).2 ⟨up, idle⟩), noControl]
  simp only [sends, noneDue, if_true]
end

theorem grantNext_nothing {s : State} {t : TrunkId} (h : (s.trunk t).state = .stopping ∨
    (s.trunk t).windowSize ≤ (s.trunk t).span ∨ s.choose t = none) : s.grantNext t = s := by
  unfold State.grantNext
  split
  · rename_i room
    rcases h with stopping | full | noChoice
    · exact absurd (stopping.symm.trans room.1) (by decide)
    · exact absurd room.2 (by omega)
    · rw [noChoice]
  · rfl

theorem grantNext_grant {s : State} {t : TrunkId} {q : QueueId} {level : Option (Fin 4)} (running : (s.trunk t).state = .running)
    (room : (s.trunk t).span < (s.trunk t).windowSize) (choice : s.choose t = some (q, level)) :
    s.grantNext t = s.grant t q level := by
  rw [State.grantNext, if_pos ⟨running, room⟩, choice]

/-- Settles O21: the base by the oldest OUTSTANDING bundle, and each selector by the branches of its decision. -/
theorem selectorsChoice : Obligations.SelectorsChoice := by
  refine ⟨fun _ => rfl, fun _ => rfl, fun k => ⟨fun _ _ _ window older out => base_of_oldest window older out, base_of_none, rfl⟩,
    fun k s => select_edgePort s k, fun t s => select_trunkPort s t, fun _ _ _ _ => rfl, fun k s => ⟨fun busy => ?_, ?_⟩,
    fun t s => ⟨fun busy => ?_, ?_⟩⟩
  · exact edgeSelect_of_not_free s ((free_eq_false s _).2 busy)
  · exact fun up idle => ⟨fun _ _ list => edgeSelect_control up idle list, fun noControl =>
      ⟨fun _ _ list => edgeSelect_return up idle noControl list, edgeSelect_nothing up idle noControl⟩⟩
  · exact trunkSelect_of_not_free s ((free_eq_false s _).2 busy)
  · refine fun up idle => ⟨fun _ _ list => trunkSelect_control up idle list, fun noControl => ?_⟩
    refine ⟨fun notRunning notStopping => trunkSelect_stopped up idle noControl (by tauto), fun sends =>
      ⟨fun b due => trunkSelect_due up idle noControl sends due, fun noneDue => ?_⟩⟩
    have nothing : (s.trunk t).oldestDue = none := by
      rw [Trunk.oldestDue, List.find?_eq_none]
      intro b hb
      rcases noneDue b hb with retiring | notDue
      · simp [retiring]
      · simp [notDue]
    rw [trunkSelect_noneDue up idle noControl sends nothing]
    exact ⟨grantNext_nothing, fun _ _ => grantNext_grant⟩

/-! ### Grants and resends -/

theorem grant_eq {s : State} {t : TrunkId} {q : QueueId} {level : Option (Fin 4)} {b : Batch} {rest : List Batch}
    (ready : (s.queue q).ready = b :: rest) : ∃ u : State,
      s.grant t q level = u.start t.port (bundleFrame u t (Bundle.granted b (s.trunk t).nextSeq) false)
        (.bundle (s.trunk t).nextSeq) ∧
      u = ((s.modQueue q fun u => { u with ready := rest, outstanding := u.outstanding + 1 }).modTrunk t fun k =>
        k.grants level q b).countTrunk t .bundlesSent 1 := by
  refine ⟨_, ?_, rfl⟩
  rw [State.grant, ready]
  rfl

/-- Settles O22: a grant and a resend by their definitions, and the bundle frame field by field. -/
theorem grantAndResend : Obligations.GrantAndResend := by
  refine ⟨rfl, rfl, rfl, rfl, rfl, fun s t q level b rest ready => ?_, fun s t b => ⟨_, _, rfl, rfl, rfl⟩,
    fun s t b retx r closed => ?_⟩
  · obtain ⟨u, started, e⟩ := grant_eq (level := level) (t := t) ready
    refine ⟨u, _, started, rfl, ?_⟩
    rw [e]
    cases level <;> rfl
  · simp only [bundleFrame, bundleHeader, closed, Option.map_some, Option.getD_some]
    cases retx <;> rfl

end Sys2Proof.Machine
end


section
/-! SUPPORT. The end of a transmission, by the owner of the frame (R8, R14, R39, R113, R121). -/

namespace Sys2Proof.Machine

theorem exec_transmissionEnd_idle {p : Port} {first : Bool} {s : State} (high : s.resetLow = false)
    (idle : (s.link p).wire = none) : exec (.transmissionEnd p first) s = .next s := by
  rw [exec, execTransmissionEnd, idle]
  exact live_of_high high s

theorem exec_transmissionEnd {p : Port} {first : Bool} {s : State} {w : OnWire} (high : s.resetLow = false)
    (wire : (s.link p).wire = some w) : exec (.transmissionEnd p first) s = .next (s.transmissionEnds p w first) := by
  rw [exec, execTransmissionEnd, wire]
  exact live_of_high high _

/-- R8: the state that the owner of the frame finds. -/
def State.sent (s : State) (p : Port) : State := (s.countPort p .framesSent 1).modLink p fun l => { l with wire := none }

section
variable (s : State) (p : Port)
@[simp] theorem sent_mgmt : (s.sent p).mgmt = s.mgmt := rfl
@[simp] theorem sent_edge : (s.sent p).edge = s.edge := rfl
@[simp] theorem sent_pool : (s.sent p).pool = s.pool := rfl
@[simp] theorem sent_events : (s.sent p).events = s.events := rfl
@[simp] theorem sent_counters : (s.sent p).counters = (s.countPort p .framesSent 1).counters := rfl
theorem sent_link_self : (s.sent p).link p = { s.link p with wire := none } := by simp [State.sent]
theorem sent_link_ne {q : Port} (h : q ≠ p) : (s.sent p).link q = s.link q := by simp [State.sent, h]

/-- R14: the unit whose RESTART response was sent goes on to its restart. -/
theorem controlEnds_mgmt : (s.controlEnds p).mgmt =
    { s.mgmt with
      mode := if s.mgmt.mode = .restartWait ∧ (s.link p).control.head?.map ControlFrame.restart = some true
        then .restartDue else s.mgmt.mode } := by
  have noted : ((s.link p).control.head?.any ControlFrame.restart && s.mgmt.mode == .restartWait) = true ↔
      s.mgmt.mode = .restartWait ∧ (s.link p).control.head?.map ControlFrame.restart = some true := by
    cases (s.link p).control.head? <;> simp [and_comm]
  unfold State.controlEnds
  dsimp only
  by_cases restart : s.mgmt.mode = .restartWait ∧ (s.link p).control.head?.map ControlFrame.restart = some true
  · rw [if_pos (noted.2 restart), if_pos restart]
    split <;> rfl
  · rw [if_neg (mt noted.1 restart), if_neg restart]
    split <;> rfl

/-- R115: a control frame sent is counted at a trunk port, and nothing else is. -/
theorem controlEnds_counters_edge (k : EdgeId) : (s.controlEnds k.port).counters = s.counters := by
  unfold State.controlEnds
  simp only [side_edge]
  split <;> rfl
theorem controlEnds_counters_trunk (t : TrunkId) :
    (s.controlEnds t.port).counters = (s.countTrunk t .controlSent 1).counters := by
  unfold State.controlEnds
  simp only [side_trunk]
  split <;> rfl
theorem controlEnds_controlSent (j : TrunkId) : (s.controlEnds p).trunkCounter j .controlSent =
    satAdd (s.trunkCounter j .controlSent) (if j.port = p then 1 else 0) := by
  rcases port_cases p with ⟨k, rfl⟩ | ⟨t, rfl⟩
  · rw [if_neg (edgePort_ne_trunkPort k j).symm, satAdd_zero]
    exact trunkCounter_congr (by rw [controlEnds_counters_edge]) j _
  · rw [trunkCounter_congr (t := s.countTrunk t .controlSent 1) (by rw [controlEnds_counters_trunk])]
    by_cases e : j = t
    · subst e
      rw [if_pos rfl, countTrunk_self]
    · rw [if_neg (by simpa [trunkPort_inj] using e), satAdd_zero, countTrunk_ne _ _ _ _ _ _ (.inl e)]
theorem controlEnds_trunkCounter (j : TrunkId) {c : TrunkCounter} (other : c ≠ .controlSent) :
    (s.controlEnds p).trunkCounter j c = s.trunkCounter j c := by
  rcases port_cases p with ⟨k, rfl⟩ | ⟨t, rfl⟩
  · exact trunkCounter_congr (by rw [controlEnds_counters_edge]) j _
  · rw [trunkCounter_congr (t := s.countTrunk t .controlSent 1) (by rw [controlEnds_counters_trunk]),
      countTrunk_ne _ _ _ _ _ _ (.inr other)]
@[simp] theorem controlEnds_counters_mgmt : (s.controlEnds p).counters.mgmt = s.counters.mgmt := by
  unfold State.controlEnds
  dsimp only
  split <;> split <;> simp
end

/-- R14, R153: the end of a control frame, before both producers offer for the freed place. -/
theorem exec_transmissionEnd_control {p : Port} {first : Bool} {s : State} {w : OnWire} (high : s.resetLow = false)
    (wire : (s.link p).wire = some w) (owner : w.owner = .control) : exec (.transmissionEnd p first) s =
      .next ((((s.sent p).controlEnds p).offerBoth p first).select p) := by
  rw [exec_transmissionEnd high wire, State.transmissionEnds, owner]
  rfl

/-- R39: the end of a return frame. -/
theorem exec_transmissionEnd_return {k : EdgeId} {first : Bool} {s : State} {w : OnWire} (high : s.resetLow = false)
    (wire : (s.link k.port).wire = some w) (owner : w.owner = .returnFrame) : exec (.transmissionEnd k.port first) s =
      .next (((s.sent k.port).returnEnds k).edgeSelect k) := by
  rw [exec_transmissionEnd high wire, State.transmissionEnds, owner, select_edgePort, State.ownerEnds, side_edge]
  rfl

/-- R113, R121: the end of a bundle. -/
theorem exec_transmissionEnd_bundle {t : TrunkId} {first : Bool} {s : State} {w : OnWire} {seq : Byte}
    (high : s.resetLow = false) (wire : (s.link t.port).wire = some w) (owner : w.owner = .bundle seq) :
    exec (.transmissionEnd t.port first) s = .next (((s.sent t.port).bundleEnds t seq).trunkSelect t) := by
  rw [exec_transmissionEnd high wire, State.transmissionEnds, owner, select_trunkPort, State.ownerEnds, side_trunk]
  rfl

/-- R39, R62: the list and the cells after a return frame was sent. -/
theorem returnEnds_of_cons {s : State} {k : EdgeId} {f : Frame} {rest : List Frame} (list : s.edge.returns.get k = f :: rest) :
    s.returnEnds k = (s.modEdge fun e => { e with returns := e.returns.set k rest }).release retAcct (returnCells f) 0 := by
  simp [State.returnEnds, State.dropReturns, list]

theorem bundleEnds_outstanding {s : State} {t : TrunkId} {seq : Byte} {b : Bundle}
    (found : (s.trunk t).bundles.find? (fun x => x.seq == seq) = some b) (outstanding : b.retiring = false) :
    s.bundleEnds t seq = s.modTrunk t fun k =>
      k.updBundle seq fun x => { x with retryDeadline := some (deadlineAfter s.now k.retryInterval) } := by
  rw [State.bundleEnds, found]
  simp [outstanding]

theorem bundleEnds_retiring {s : State} {t : TrunkId} {seq : Byte} {b : Bundle}
    (found : (s.trunk t).bundles.find? (fun x => x.seq == seq) = some b) (retiring : b.retiring = true) :
    s.bundleEnds t seq = ((s.retire t b).1.raise .queueUnit (s.retire t b).2).windowEmptied t := by
  rw [State.bundleEnds, found]
  simp [retiring]

/-- Settles O24: the four owners in turn, from the state in which the frame is counted and the transmitter idle. -/
theorem transmissionEnds : Obligations.TransmissionEnds := by
  refine ⟨fun p first s => exec_transmissionEnd_idle, fun p first s w high wire owner => ⟨(s.sent p).controlEnds p,
    exec_transmissionEnd_control high wire owner, ?_, ?_, fun q hq => ?_, ?_, fun j => ?_, fun q c other => ?_,
    fun j c other => ?_, ?_, ?_, ?_⟩, fun k first s w f rest high wire owner list => ⟨(s.sent k.port).returnEnds k,
    exec_transmissionEnd_return high wire owner, ?_, ?_, fun q hq => ?_, ?_, ?_, ?_, ?_⟩,
    fun t first s w seq b high wire owner found => ⟨s.sent t.port, rfl, fun outstanding => ?_, fun retiring => ?_⟩⟩
  · apply State.eq_of_fields <;> simp [State.sent]
  · rw [controlEnds_link, if_pos rfl, sent_link_self]
  · rw [controlEnds_link, if_neg hq, sent_link_ne s p hq]
  · exact (portCounter_congr (controlEnds_counters_port _ _) _ _).trans (countPort_self s p .framesSent 1)
  · exact controlEnds_controlSent (s.sent p) p j
  · exact (portCounter_congr (controlEnds_counters_port _ _) _ _).trans (countPort_ne s p q .framesSent c 1 other)
  · exact controlEnds_trunkCounter (s.sent p) p j other
  · simp
  · simp
  · rw [controlEnds_mgmt, sent_link_self]
    rfl
  · apply State.eq_of_fields <;> simp [State.sent]
  · simp [sent_link_self]
  · simp [sent_link_ne s k.port hq]
  · rw [returnEnds_of_cons (by simpa using list), release_edge]
    rfl
  · rw [returnEnds_of_cons (by simpa using list)]
    exact (release_congr (s := (s.sent k.port).modEdge _) (t := s) rfl rfl _ _ _).1
  · rw [returnEnds_of_cons (by simpa using list)]
    exact (release_congr (s := (s.sent k.port).modEdge _) (t := s) rfl rfl _ _ _).2
  · simp
  · rw [exec_transmissionEnd_bundle high wire owner, bundleEnds_outstanding (by simpa [State.sent] using found) outstanding]
    rfl
  · rw [exec_transmissionEnd_bundle high wire owner, bundleEnds_retiring (by simpa [State.sent] using found) retiring]

end Sys2Proof.Machine
end


section
/-! SUPPORT. Link reports (R2, R3, R8, R15, R25, R100, R101, R143, R153). -/

namespace Sys2Proof.Machine

/-! ### LINK_UP -/

theorem exec_linkUp {p : Port} {s : State} (high : s.resetLow = false) :
    exec (.linkUp p) s = .next (if (s.link p).up then s else s.linkComesUp p) := live_of_high high _

/-- R2, R101: the state in which the report of UP is raised, before the event unit takes it. -/
def State.upReported (s : State) (p : Port) : State :=
  ((s.modLink p fun l => { l with up := true }).unitsLinkUp p).raise (.linkLayer p) [raiseOf .linkUp p.val 0]

/-- R101: the trunk unit at a report of UP, state by state. -/
theorem linkUp_waiting {k : Trunk} (h : k.state = .waiting) : k.linkUp = { k with state := .running } := by
  simp [Trunk.linkUp, h]
theorem linkUp_holding {k : Trunk} (h : k.state = .holding) : k.linkUp =
    { k with hold := none, state := if k.stopRequested then .stopping else .running, stopRequested := false,
             bundles := k.bundles.map Bundle.heldDue } := by
  simp [Trunk.linkUp, h]
theorem linkUp_other {k : Trunk} (notWaiting : k.state ≠ .waiting) (notHolding : k.state ≠ .holding) : k.linkUp = k := by
  cases h : k.state <;> simp_all [Trunk.linkUp]

theorem upReported_trunk_self (s : State) (t : TrunkId) : (s.upReported t.port).trunk t = (s.trunk t).linkUp := by
  simp [State.upReported, State.unitsLinkUp]
theorem upReported_trunk_ne (s : State) {p : Port} {t : TrunkId} (h : t.port ≠ p) : (s.upReported p).trunk t = s.trunk t := by
  rcases port_cases p with ⟨k, rfl⟩ | ⟨i, rfl⟩
  · simp [State.upReported, State.unitsLinkUp]
  · have other : t ≠ i := fun e => h (congrArg _ e)
    simp [State.upReported, State.unitsLinkUp, other]

/-- Settles O5: the report of UP up to its raise, field by field, and the trunk unit state by state. -/
theorem linkUpReport : Obligations.LinkUpReport := by
  intro p s high
  rw [exec_linkUp high]
  refine ⟨fun up => by rw [if_pos up], fun down => ⟨s.upReported p, by simp only [down]; rfl, ?_, ?_, fun q hq => ?_, ?_,
    fun t other => upReported_trunk_ne s other, ?_⟩⟩
  · apply State.eq_of_fields <;> simp [State.upReported]
  · simp [State.upReported]
  · simp [State.upReported, hq]
  · simp [State.upReported, raise_eq, raiseOf]
  · rintro t rfl
    rw [upReported_trunk_self]
    refine ⟨linkUp_waiting, fun holding => ?_, linkUp_other⟩
    rw [linkUp_holding holding]
    have due : Bundle.heldDue = fun b : Bundle =>
        { b with due := match b.due with | none => some .uncounted | some f => some f } := by
      funext b
      cases h : b.due <;> simp [Bundle.heldDue, h]
    rw [due] <;> rfl

/-! ### LINK_DOWN -/

theorem exec_linkDown {p : Port} {receiving : Bool} {s : State} (high : s.resetLow = false) :
    exec (.linkDown p receiving) s = .next (if (s.link p).up then s.linkGoesDown p receiving else s) := live_of_high high _

/-- A step that does nothing to the event unit but raise events. -/
def RaisesOnly (s t : State) : Prop := ∃ later, t.events = { s.events with raised := s.events.raised ++ later }

namespace RaisesOnly
variable {s t u : State}

theorem of_eq (h : t.events = s.events) : RaisesOnly s t := ⟨[], by simp [h]⟩
theorem trans (h : RaisesOnly s t) (h' : RaisesOnly t u) : RaisesOnly s u := by
  obtain ⟨l, e⟩ := h
  obtain ⟨l', e'⟩ := h'
  exact ⟨l ++ l', by rw [e', e]; simp⟩
theorem raise (h : RaisesOnly s t) (b : Block) (es : List Raise) : RaisesOnly s (t.raise b es) :=
  h.trans ⟨_, by rw [raise_eq]⟩
theorem release (s : State) (a : AcctId) (n d : Nat) : RaisesOnly s (s.release a n d) := by
  obtain ⟨l, e, -⟩ := release_raised s a n d
  exact ⟨l, by rw [release_events, e]⟩
theorem retire (s : State) (t : TrunkId) (b : Bundle) : RaisesOnly s (s.retire t b).1 := by
  obtain ⟨l, -, e⟩ := retire_fst_events s t b
  exact ⟨l, e⟩
theorem holdExpires (s : State) (t : TrunkId) : RaisesOnly s (s.holdExpires t) := by
  obtain ⟨-, -, -, -, -, -, -, pool, offs, -, -, e⟩ := holdExpires_spec s t
  exact ⟨_, e.trans (by rw [List.append_assoc])⟩

theorem windowAbort (s : State) (t : TrunkId) (w : Option OnWire) : RaisesOnly s (s.windowAbort t w) := by
  unfold State.windowAbort
  split
  · exact of_eq rfl
  · split <;> [exact of_eq rfl; exact of_eq rfl; split <;> [exact of_eq rfl; split]]
    · rename_i b _ _
      exact ((retire s t b).raise .queueUnit (s.retire t b).2).trans (of_eq (by simp))
    · exact of_eq rfl

theorem trunkLinkDown (s : State) (t : TrunkId) : RaisesOnly s (s.trunkLinkDown t) := by
  have held : ∀ stop, RaisesOnly s ((s.modTrunk t fun k => k.enterHold s.now stop).holdExpires t) := fun stop =>
    (of_eq (by simp)).trans (holdExpires _ t)
  unfold State.trunkLinkDown
  dsimp only
  split
  · split <;> [exact of_eq (by simp); split <;> [exact held _; exact of_eq (by simp)]]
  · split <;> [exact of_eq (by simp); split <;> [exact held _; exact of_eq (by simp)]]
  all_goals exact of_eq rfl

theorem edgeLinkDown (s : State) (k : EdgeId) : RaisesOnly s (s.edgeLinkDown k) := by
  refine (RaisesOnly.of_eq ?_).trans ((release _ _ _ _).trans (of_eq (countPort_events _ _ _ _)))
  simp

theorem unitsLinkDown (s : State) (p : Port) (w : Option OnWire) : RaisesOnly s (s.unitsLinkDown p w) := by
  unfold State.unitsLinkDown
  split
  · exact edgeLinkDown s _
  · exact (windowAbort s _ w).trans (trunkLinkDown _ _)

end RaisesOnly

/-! Counters -/

/-- R115: an abandonment counts at its trunk port only the bundle abandoned. -/
theorem abandon_fst_trunkCounter (s : State) (t : TrunkId) (b : Bundle) (j : TrunkId) {c : TrunkCounter}
    (other : c ≠ .bundlesAbandoned) : (s.abandon t b).1.trunkCounter j c = s.trunkCounter j c := by
  rw [State.abandon, trunkCounter_congr (congrArg Counters.trunk (drainTest_fst_counters _ _)),
    countTrunk_ne _ _ _ _ _ _ (.inr other)]
  exact trunkCounter_congr (by simp) j c

theorem holdExpires_trunkCounter (s : State) (t : TrunkId) (j : TrunkId) {c : TrunkCounter} (other : c ≠ .bundlesAbandoned) :
    (s.holdExpires t).trunkCounter j c = s.trunkCounter j c := by
  have abandoned : (s.abandonAll t).1.trunkCounter j c = s.trunkCounter j c :=
    foldl_abandon (fun u => u.trunkCounter j c) t (fun u b => abandon_fst_trunkCounter u t b j other) _ (s, [])
  exact (trunkCounter_congr (by simp [State.holdExpires]) j c).trans abandoned

theorem unitsLinkDown_trunkCounter (s : State) (p : Port) (w : Option OnWire) (j : TrunkId) {c : TrunkCounter}
    (other : c ≠ .bundlesAbandoned) : (s.unitsLinkDown p w).trunkCounter j c = s.trunkCounter j c := by
  have held : ∀ (u : State) (t : TrunkId) (stop : Bool),
      ((u.modTrunk t fun k => k.enterHold u.now stop).holdExpires t).trunkCounter j c = u.trunkCounter j c :=
    fun u t stop => (holdExpires_trunkCounter _ t j other).trans (trunkCounter_congr (by simp) j c)
  have down : ∀ (u : State) (t : TrunkId), (u.trunkLinkDown t).trunkCounter j c = u.trunkCounter j c := fun u t => by
    unfold State.trunkLinkDown
    dsimp only
    split
    · split <;> [rfl; split <;> [exact held u t _; rfl]]
    · split <;> [rfl; split <;> [exact held u t _; rfl]]
    all_goals rfl
  unfold State.unitsLinkDown
  split
  · exact trunkCounter_congr (by simp) j c
  · rw [down]
    exact trunkCounter_congr (by simp) j c

theorem unitsLinkDown_portCounter (s : State) (p : Port) (w : Option OnWire) (q : Port) {c : PortCounter}
    (other : q ≠ p ∨ c ≠ .returnLost) : (s.unitsLinkDown p w).portCounter q c = s.portCounter q c := by
  rcases port_cases p with ⟨k, rfl⟩ | ⟨t, rfl⟩
  · simp only [State.unitsLinkDown, side_edge, State.edgeLinkDown, State.loseReturns]
    rw [countPort_ne _ _ _ _ _ _ other]
    exact portCounter_congr (by simp) q c
  · simp only [State.unitsLinkDown, side_trunk]
    exact portCounter_congr (by simp) q c

/-! The report -/

/-- R3, R8, R15: what the link layer does before the units of the port take the report of DOWN. -/
def State.downReported (s : State) (p : Port) (receiving : Bool) : State :=
  ((((if receiving then s.countPort p .aborted 1 else s).abort p).modLink p fun l =>
    { l with up := false, control := [] }).countPort p .controlLost (s.link p).control.length).raise (.linkLayer p)
      [raiseOf .linkDown p.val (s.link p).control.length]

theorem linkGoesDown_eq (s : State) (p : Port) (receiving : Bool) : s.linkGoesDown p receiving =
    ((s.downReported p receiving).unitsLinkDown p (s.link p).wire).mgmtLinkDown p (s.link p).control := rfl

section
variable (s : State) (p : Port) (receiving : Bool)

theorem downReported_mgmt : (s.downReported p receiving).mgmt = s.mgmt := by
  cases receiving <;> simp [State.downReported]
theorem downReported_counters_mgmt : (s.downReported p receiving).counters.mgmt = s.counters.mgmt := by
  cases receiving <;> simp [State.downReported]
theorem downReported_events : (s.downReported p receiving).events = { s.events with raised := s.events.raised ++
    [{ block := .linkLayer p, events := [raiseOf .linkDown p.val (s.link p).control.length] }] } := by
  cases receiving <;> simp [State.downReported, raise_eq]

/-- R8: the abort is counted at a trunk port that was sending. -/
theorem abort_trunkCounter (j : TrunkId) (c : TrunkCounter) : (s.abort p).trunkCounter j c = satAdd (s.trunkCounter j c)
    (if c = .transmitAborted ∧ j.port = p ∧ (s.link p).wire.isSome then 1 else 0) := by
  cases wire : (s.link p).wire with
  | none => simp [State.abort, wire]
  | some w =>
    rcases port_cases p with ⟨k, rfl⟩ | ⟨t, rfl⟩
    · simp only [State.abort, wire, side_edge, (edgePort_ne_trunkPort k j).symm]
      simpa using trunkCounter_congr (by simp) j c
    · simp only [State.abort, wire, side_trunk, trunkPort_inj]
      by_cases counted : c = .transmitAborted ∧ j = t
      · obtain ⟨rfl, rfl⟩ := counted
        rw [countTrunk_self]
        simp [State.trunkCounter]
      · have other : j ≠ t ∨ c ≠ .transmitAborted := by tauto
        rw [countTrunk_ne _ _ _ _ _ _ other, if_neg (by tauto), satAdd_zero]
        exact trunkCounter_congr (by simp) j c

theorem downReported_trunkCounter (j : TrunkId) (c : TrunkCounter) : (s.downReported p receiving).trunkCounter j c =
    satAdd (s.trunkCounter j c) (if c = .transmitAborted ∧ j.port = p ∧ (s.link p).wire.isSome then 1 else 0) := by
  have abort : (s.downReported p receiving).trunkCounter j c =
      ((if receiving then s.countPort p .aborted 1 else s).abort p).trunkCounter j c :=
    trunkCounter_congr (by simp [State.downReported]) j c
  rw [abort, abort_trunkCounter]
  cases receiving <;> simp [State.trunkCounter]

/-- R15, R163: the port counters when the report is raised. -/
theorem downReported_portCounter (q : Port) (c : PortCounter) : (s.downReported p receiving).portCounter q c =
    satAdd (s.portCounter q c) (if q = p ∧ c = .controlLost then (s.link p).control.length
      else if q = p ∧ c = .aborted then receiving.toNat else 0) := by
  have received : (if receiving then s.countPort p .aborted 1 else s).portCounter q c =
      satAdd (s.portCounter q c) (if q = p ∧ c = .aborted then receiving.toNat else 0) := by
    cases receiving
    · simp
    · by_cases counted : q = p ∧ c = .aborted
      · obtain ⟨rfl, rfl⟩ := counted
        simp [countPort_self]
      · have other : q ≠ p ∨ c ≠ .aborted := by tauto
        simp [countPort_ne _ _ _ _ _ _ other, counted]
  have aborted : (((if receiving then s.countPort p .aborted 1 else s).abort p).modLink p fun l =>
      { l with up := false, control := [] }).portCounter q c =
      satAdd (s.portCounter q c) (if q = p ∧ c = .aborted then receiving.toNat else 0) :=
    (portCounter_congr (t := if receiving then s.countPort p .aborted 1 else s) (by simp) q c).trans received
  rw [State.downReported, raise_portCounter]
  by_cases counted : q = p ∧ c = .controlLost
  · obtain ⟨rfl, rfl⟩ := counted
    rw [countPort_self, aborted]
    simp
  · have other : q ≠ p ∨ c ≠ .controlLost := by tauto
    rw [countPort_ne _ _ _ _ _ _ other, if_neg counted, aborted]
end

/-! R143, R153: the management unit -/

section
variable {s : State} {p : Port} {lost : List ControlFrame}

theorem loseResponse_mgmt (s : State) (c : ControlFrame) :
    (s.loseResponse c).mgmt = { s.mgmt with mode := if c.restart then .restartDue else .ready } := by
  unfold State.loseResponse
  split <;> simp_all

/-- The response that waits for this port is dropped. -/
theorem mgmtLinkDown_waiting {c : ControlFrame} {d : Word} (waits : s.mgmt.mode = .responseWait c p d) :
    s.mgmtLinkDown p lost = s.loseResponse c := by
  rw [State.mgmtLinkDown, waits]
  exact if_pos rfl

/-- A RESTART response that was placed there is lost with the control list. -/
theorem mgmtLinkDown_other (other : ∀ c d, s.mgmt.mode ≠ .responseWait c p d) : s.mgmtLinkDown p lost =
    s.modMgmt fun m => { m with mode :=
      if s.mgmt.mode = .restartWait ∧ lost.any ControlFrame.restart = true then .restartDue else s.mgmt.mode } := by
  have same : s = s.modMgmt fun m => { m with mode := s.mgmt.mode } := rfl
  unfold State.mgmtLinkDown
  cases mode : s.mgmt.mode with
  | ready => simpa [mode] using same
  | restartDue => simpa [mode] using same
  | restartWait =>
    by_cases restart : lost.any ControlFrame.restart = true
    · simp [restart]
    · simpa [mode, restart] using same
  | responseWait c q d =>
    have elsewhere : q ≠ p := by
      rintro rfl
      exact other c d mode
    simpa [mode, elsewhere] using same
end

section
variable (s : State) (p : Port) (receiving : Bool)

/-- The management unit finds itself as it was before the report. -/
theorem unitsDown_mgmt : ((s.downReported p receiving).unitsLinkDown p (s.link p).wire).mgmt = s.mgmt := by
  rw [unitsLinkDown_mgmt, downReported_mgmt]
theorem unitsDown_counters_mgmt :
    ((s.downReported p receiving).unitsLinkDown p (s.link p).wire).counters.mgmt = s.counters.mgmt := by
  rw [unitsLinkDown_counters_mgmt, downReported_counters_mgmt]

theorem linkGoesDown_mgmt_waiting {c : ControlFrame} {d : Word} (waits : s.mgmt.mode = .responseWait c p d) :
    (s.linkGoesDown p receiving).mgmt = { s.mgmt with mode := if c.restart then .restartDue else .ready } := by
  rw [linkGoesDown_eq, mgmtLinkDown_waiting (by rw [unitsDown_mgmt, waits]), loseResponse_mgmt, unitsDown_mgmt]

theorem linkGoesDown_mgmt_other (other : ∀ c d, s.mgmt.mode ≠ .responseWait c p d) :
    (s.linkGoesDown p receiving).mgmt = { s.mgmt with mode :=
      if s.mgmt.mode = .restartWait ∧ ((s.link p).control.any ControlFrame.restart) = true then .restartDue
      else s.mgmt.mode } := by
  rw [linkGoesDown_eq, mgmtLinkDown_other (by simpa only [unitsDown_mgmt] using other), modMgmt_mgmt, unitsDown_mgmt]

/-- R142: a response that is lost is counted, unless it was a RESTART's. -/
theorem linkGoesDown_responseLost {c : ControlFrame} {d : Word} (waits : s.mgmt.mode = .responseWait c p d)
    (ordinary : c.restart = false) : (s.linkGoesDown p receiving).mgmtCounter .responseLost =
      satAdd (s.mgmtCounter .responseLost) 1 := by
  rw [linkGoesDown_eq, mgmtLinkDown_waiting (by rw [unitsDown_mgmt, waits]), State.loseResponse, ordinary]
  simp only [Bool.false_eq_true, if_false, countMgmt_self]
  congr 1
  exact mgmtCounter_congr (unitsDown_counters_mgmt s p receiving) _

theorem linkGoesDown_counters_mgmt (none : ¬ ∃ c d, s.mgmt.mode = .responseWait c p d ∧ c.restart = false) :
    (s.linkGoesDown p receiving).counters.mgmt = s.counters.mgmt := by
  rw [linkGoesDown_eq]
  by_cases waiting : ∃ c d, s.mgmt.mode = .responseWait c p d
  · obtain ⟨c, d, waits⟩ := waiting
    have restart : c.restart = true := by
      rw [← Bool.not_eq_false]
      exact fun ordinary => none ⟨c, d, waits, ordinary⟩
    rw [mgmtLinkDown_waiting (by rw [unitsDown_mgmt, waits]), State.loseResponse, restart]
    exact unitsDown_counters_mgmt s p receiving
  · rw [mgmtLinkDown_other (by rw [unitsDown_mgmt]; exact fun c d waits => waiting ⟨c, d, waits⟩)]
    exact unitsDown_counters_mgmt s p receiving

theorem linkGoesDown_trunkCounter (j : TrunkId) {c : TrunkCounter} (other : c ≠ .bundlesAbandoned) :
    (s.linkGoesDown p receiving).trunkCounter j c = satAdd (s.trunkCounter j c)
      (if c = .transmitAborted ∧ j.port = p ∧ (s.link p).wire.isSome then 1 else 0) := by
  rw [linkGoesDown_eq, trunkCounter_congr (mgmtLinkDown_counters_trunk _ _ _), unitsLinkDown_trunkCounter _ _ _ _ other,
    downReported_trunkCounter]

theorem linkGoesDown_portCounter (q : Port) {c : PortCounter} (other : q ≠ p ∨ c ≠ .returnLost) :
    (s.linkGoesDown p receiving).portCounter q c =
      satAdd (s.portCounter q c) (if q = p ∧ c = .controlLost then (s.link p).control.length
        else if q = p ∧ c = .aborted then receiving.toNat else 0) := by
  rw [linkGoesDown_eq, portCounter_congr (mgmtLinkDown_counters_port _ _ _), unitsLinkDown_portCounter _ _ _ _ other,
    downReported_portCounter]

theorem linkGoesDown_events : ∃ later, (s.linkGoesDown p receiving).events = { s.events with raised := s.events.raised ++
    { block := .linkLayer p, events := [raiseOf .linkDown p.val (s.link p).control.length] } :: later } := by
  obtain ⟨later, e⟩ := RaisesOnly.unitsLinkDown (s.downReported p receiving) p (s.link p).wire
  exact ⟨later, by rw [linkGoesDown_eq, mgmtLinkDown_events, e, downReported_events]; simp⟩
end

/-- Settles O6: the link layer's part, the units of the port, then the management unit, each by its own lemma. -/
theorem linkDownReport : Obligations.LinkDownReport := by
  intro p receiving s high
  rw [exec_linkDown high]
  refine ⟨fun down => by rw [down]; rfl, fun up => ⟨s.linkGoesDown p receiving, by rw [if_pos up], ?_, ?_, fun q hq => ?_,
    ?_, ?_, fun q c other => ?_, fun j => ?_, fun j c other notAbandoned => ?_, linkGoesDown_events s p receiving, ?_,
    fun c d waits => ?_, fun other => ?_, ?_, linkGoesDown_counters_mgmt s p receiving⟩⟩
  · apply State.eq_of_fields <;> simp [linkGoesDown_eq, State.downReported, apply_ite]
  · rw [linkGoesDown_link, if_pos rfl]
  · rw [linkGoesDown_link, if_neg hq]
  · rw [linkGoesDown_portCounter s p receiving p (.inr (by decide))]
    simp
  · rw [linkGoesDown_portCounter s p receiving p (.inr (by decide))]
    simp
  · rw [linkGoesDown_portCounter s p receiving q (by tauto), if_neg (by tauto), if_neg (by tauto), satAdd_zero]
  · rw [linkGoesDown_trunkCounter s p receiving j (by decide)]
    simp
  · rw [linkGoesDown_trunkCounter s p receiving j notAbandoned, if_neg (by tauto), satAdd_zero]
  · by_cases waiting : ∃ c d, s.mgmt.mode = .responseWait c p d
    · obtain ⟨c, d, waits⟩ := waiting
      rw [linkGoesDown_mgmt_waiting s p receiving waits]
    · rw [linkGoesDown_mgmt_other s p receiving fun c d waits => waiting ⟨c, d, waits⟩]
  · rw [linkGoesDown_mgmt_waiting s p receiving waits]
  · rw [linkGoesDown_mgmt_other s p receiving other]
  · rintro ⟨c, d, waits, ordinary⟩
    exact linkGoesDown_responseLost s p receiving waits ordinary

end Sys2Proof.Machine
end


section
/-! SUPPORT. The event unit: the taking of raises and the opportunities to send (R21, R168 to R171, R176, R177). -/

namespace Sys2Proof.Machine

/-! ### Taking raises -/

theorem exec_eventRaise {b : Block} {s : State} (high : s.resetLow = false) :
    exec (.eventRaise b) s = .next (s.takeArrival b) := live_of_high high _

theorem takeArrival_none {b : Block} {s : State} (noneOf : ∀ a ∈ s.events.raised, a.block ≠ b) : s.takeArrival b = s := by
  have noArrival : s.events.raised.find? (fun a => a.block == b) = none := by simpa [List.find?_eq_none] using noneOf
  rw [State.takeArrival, noArrival]

theorem takeArrival_some {b : Block} {s : State} {a : Arrival}
    (first : s.events.raised.find? (fun x => x.block == b) = some a) : s.takeArrival b =
      (s.modEvents fun e => { e with raised := e.raised.eraseP fun a => a.block == b }).takeRaises a.events := by
  rw [State.takeArrival, first]

/-- R169 to R171, R176: the event unit once the record and the slots have taken a raise. -/
def State.noticed (s : State) (r : Raise) : State := (s.record r).actSlots (s.kindsOf r)

section
variable {s : State} (r : Raise)

/-- R171: what a raise does while the record queue has room. -/
theorem kindsOf_room (room : s.events.records.length < 32) : s.kindsOf r = [r.kind] :=
  if_neg (Nat.not_le.2 room)
theorem record_room (room : s.events.records.length < 32) : (s.record r).events = { s.events with records :=
    s.events.records ++ [{ kind := r.kind, subject := r.subject, detail := r.detail, time := s.now }] } :=
  if_neg (Nat.not_le.2 room)

/-- R171: and at a full record queue. -/
theorem kindsOf_full (full : 32 ≤ s.events.records.length) : s.kindsOf r = [r.kind, .recordsLost] := if_pos full
theorem record_full (full : 32 ≤ s.events.records.length) :
    (s.record r).events = { s.events with lost := satAdd s.events.lost 1 } := if_pos full

theorem noticed_slot (i : SlotId) : (s.noticed r).slot i = (s.kindsOf r).foldl Slot.act (s.slot i) := by
  have slots : (s.record r).events.slots = s.events.slots := by
    by_cases room : s.events.records.length < 32
    · rw [record_room r room]
    · rw [record_full r (Nat.not_lt.1 room)]
  simp [State.noticed, State.actSlots, State.slot, slots]
theorem noticed_records : (s.noticed r).events.records = (s.record r).events.records := rfl
theorem noticed_lost : (s.noticed r).events.lost = (s.record r).events.lost := rfl

/-- The taking changes records, the records-lost count and the slots, and nothing else. -/
theorem noticed_eq : s.noticed r = { s with events := { s.events with
    records := (s.noticed r).events.records, lost := (s.noticed r).events.lost, slots := (s.noticed r).events.slots } } := by
  have events : (s.record r).events = { s.events with
      records := (s.record r).events.records, lost := (s.record r).events.lost } := by
    by_cases room : s.events.records.length < 32
    · rw [record_room r room]
    · rw [record_full r (Nat.not_lt.1 room)]
  apply State.eq_of_fields <;> simp [State.noticed]
  simp only [State.actSlots, modEvents_events]
  rw [events]
end

/-- R169: the ports are asked in ascending order. -/
theorem owingPorts_pairwise (s : State) (ks : List EventKind) : (s.owingPorts ks).Pairwise (· < ·) :=
  (List.pairwise_lt_finRange 12).filter _

/-! ### What a kind does to a slot -/

theorem subscribes_iff (x : Slot) (k : EventKind) :
    x.subscribes k = true ↔ x.inUse = true ∧ x.kindSet.getLsbD k.code = true := by
  rw [Slot.subscribes, and_bit, Bool.and_eq_true]

theorem act_not_subscribed {x : Slot} {k : EventKind} (h : x.inUse = false ∨ x.kindSet.getLsbD k.code = false) :
    x.act k = x := by
  refine if_neg ?_
  rw [subscribes_iff]
  rintro ⟨inUse, told⟩
  simp [inUse, told] at h

theorem act_subscribed {x : Slot} {k : EventKind} (inUse : x.inUse = true) (told : x.kindSet.getLsbD k.code = true) :
    x.act k = if x.pending.getLsbD k.code then { x with recurred := x.recurred ||| k.bit }
      else { x with owed := x.owed ||| k.bit } := by
  rw [Slot.act, if_pos ((subscribes_iff x k).2 ⟨inUse, told⟩), and_bit]

/-- Settles O33: the codes by evaluation, the taking by its parts: record, slots, and the ports that come to owe. -/
theorem eventUnitTakesRaises : Obligations.EventUnitTakesRaises := by
  refine ⟨rfl, rfl, rfl, rfl, rfl, rfl, rfl, rfl, rfl, rfl, rfl, rfl, rfl, rfl, rfl, fun _ => rfl, fun _ _ _ => rfl,
    fun _ _ => rfl, fun _ _ _ _ => rfl, fun _ _ => rfl, fun b s high noneOf => ?_, fun b s a high first => ?_, ?_,
    fun x k => ⟨act_not_subscribed, fun inUse told => ?_⟩⟩
  · rw [exec_eventRaise high, takeArrival_none noneOf]
  · rw [exec_eventRaise high, takeArrival_some first]
    rfl
  · rintro s r full rfl
    refine ⟨s.noticed r, s.owingPorts (s.kindsOf r), rfl, noticed_eq r, fun room => ?_, fun full => ?_, fun i => ?_,
      owingPorts_pairwise _ _, fun p => ?_⟩
    · rw [noticed_lost, noticed_records, record_room r (by simpa using room)]
      exact ⟨rfl, rfl⟩
    · rw [noticed_lost, noticed_records, record_full r (by simpa using full)]
      exact ⟨rfl, rfl⟩
    · rw [noticed_slot]
      by_cases full : 32 ≤ s.events.records.length
      · simp [kindsOf_full r full, full]
      · simp [kindsOf_room r (Nat.not_le.1 full), full]
    · rw [mem_owingPorts]
      by_cases full : 32 ≤ s.events.records.length
      · simp [kindsOf_full r full, full]
      · simp [kindsOf_room r (Nat.not_le.1 full), full]
  · rw [act_subscribed inUse told]
    exact ⟨fun pending => if_pos pending, fun fresh => if_neg (by simp [fresh])⟩

/-! ### Opportunities -/

section
variable {p : Port} {i : SlotId} {s : State} (rest : List SlotId)

/-- R177: the slot has a NOTE for this port. -/
theorem ready_iff : ((s.slot i).ready && (s.slot i).port == p) = true ↔
    (s.slot i).inUse = true ∧ (s.slot i).owed ≠ 0 ∧ (s.slot i).port = p := by
  simp [Slot.ready, and_assoc]

theorem offerNotes_skip (notReady : ¬ ((s.slot i).inUse = true ∧ (s.slot i).owed ≠ 0 ∧ (s.slot i).port = p)) :
    s.offerNotes p (i :: rest) = s.offerNotes p rest := by
  rw [State.offerNotes, if_neg (mt ready_iff.1 notReady)]

variable (ready : (s.slot i).inUse = true ∧ (s.slot i).owed ≠ 0 ∧ (s.slot i).port = p)
include ready

theorem offerNotes_refused (noRoom : (s.link p).up = false ∨ 8 ≤ (s.link p).control.length) :
    s.offerNotes p (i :: rest) = s.countMgmt .notesRefused 1 := by
  rw [State.offerNotes, if_pos (ready_iff.2 ready)]
  cases up : (s.link p).up
  · rw [offer_eq_linkDown s up]
  · rw [offer_eq_full s up (noRoom.resolve_left (by simp [up]))]

theorem offerNotes_accepted (up : (s.link p).up = true) (room : (s.link p).control.length < 8) :
    s.offerNotes p (i :: rest) = State.offerNotes p rest
      (((s.modSlot i fun x => x.noted s.now).countMgmt .notesSent 1).place p { frame := noteFrame s i, restart := false }) := by
  rw [State.offerNotes, if_pos (ready_iff.2 ready), offer_eq_accepted s up room]
end

/-- Settles O34: the recursion of an opportunity, slot by slot. -/
theorem opportunityOffersNotes : Obligations.OpportunityOffersNotes := by
  refine ⟨fun _ _ => rfl, fun p i rest s => ⟨rfl, offerNotes_skip rest, fun inUse owed port =>
    ⟨offerNotes_refused rest ⟨inUse, owed, port⟩, fun up room => ?_⟩⟩⟩
  rw [offerNotes_accepted rest ⟨inUse, owed, port⟩ up room]
  rfl

end Sys2Proof.Machine
end


section
/-! SUPPORT. The management unit: offering a response, taking a request, and the READ_EVENTS answers (R19, R137 to R143,
R147, R149, R152, R172). -/

namespace Sys2Proof.Machine

/-! ### Offering a response -/

section
variable {s : State} {p q : Port} {c : ControlFrame} {d : Word}

theorem reoffer_other_port (held : s.mgmt.mode = .responseWait c q d) (other : q ≠ p) : s.reoffer p = s := by
  rw [State.reoffer, held]
  exact if_neg other

theorem reoffer_accepted (held : s.mgmt.mode = .responseWait c p d) (up : (s.link p).up = true)
    (room : (s.link p).control.length < 8) :
    s.reoffer p = (s.modMgmt fun m => { m with mode := c.placedMode }).place p c := by
  rw [State.reoffer, held]
  simp only [if_true, offer_eq_accepted s up room]

theorem reoffer_full (held : s.mgmt.mode = .responseWait c p d) (up : (s.link p).up = true)
    (full : 8 ≤ (s.link p).control.length) : s.reoffer p = s := by
  rw [State.reoffer, held]
  simp only [if_true, offer_eq_full s up full]

theorem reoffer_none_held (noneHeld : ∀ c q d, s.mgmt.mode ≠ .responseWait c q d) : s.reoffer p = s := by
  unfold State.reoffer
  split
  · rename_i held
    exact absurd held (noneHeld _ _ _)
  all_goals rfl

theorem respond_linkDown (down : (s.link p).up = false) : s.respond p c = s.loseResponse c := by
  rw [State.respond, offer_eq_linkDown s down]

theorem respond_accepted (up : (s.link p).up = true) (room : (s.link p).control.length < 8) :
    s.respond p c = (s.modMgmt fun m => { m with mode := c.placedMode }).place p c := by
  rw [State.respond, offer_eq_accepted s up room]

theorem respond_full (up : (s.link p).up = true) (full : 8 ≤ (s.link p).control.length) :
    s.respond p c = s.modMgmt fun m => { m with mode := .responseWait c p (s.now + BitVec.ofNat 32 10000) } := by
  rw [State.respond, offer_eq_full s up full]
  rfl
end

/-- Settles O37: the codes by evaluation, then a held and a new response by the outcome of the offer. -/
theorem responseIsOffered : Obligations.ResponseIsOffered := by
  refine ⟨rfl, rfl, rfl, rfl, rfl, rfl, rfl, rfl, fun s p q c d held => ⟨reoffer_other_port held, ?_, ?_⟩,
    fun s p => reoffer_none_held, ?_⟩
  · rintro rfl up room
    rw [reoffer_accepted held up room]
    rfl
  · rintro rfl
    exact reoffer_full held
  · rintro u r st data c rfl
    exact ⟨respond_linkDown, respond_accepted, respond_full⟩

/-! ### Taking a request -/

theorem kind_none_of_code {r : Request} (h : (byteAt r.payload 2).toNat = 0 ∨ 0x19 < (byteAt r.payload 2).toNat) :
    r.kind = none := by
  unfold Request.kind Request.code RequestKind.ofCode
  split
  on_goal 26 => rfl
  all_goals omega

theorem row_of_unknown {r : Request} (unknown : r.kind = none) : r.row = .unknownRequestKind := by
  rw [Request.row, unknown]

/-- R139: the kinds that need ownership whatever their flags, and the two that need it to take or clear. -/
theorem mutating_iff (r : Request) : r.mutating = true ↔
    (∃ k ∈ ([.writeItem, .tableWrite, .tableClear, .commit, .queueStart, .queueHalt, .queueFlush, .queuePurge, .dirPin,
        .dirUnpin, .dirFlush, .subscribe, .unsubscribe, .restart] : List RequestKind), r.kind = some k) ∨
      ((r.kind = some .readEvents ∨ r.kind = some .readCounters) ∧ r.flags.getLsbD 0 = true) := by
  cases kind : r.kind with
  | none => simp [Request.mutating, kind]
  | some k => cases k <;> simp [Request.mutating, kind, Request.flag0]

theorem row_writeItem_refused {r : Request} (write : r.kind = some .writeItem)
    (bad : r.payload.length ≠ 11 ∨ r.item = none) : r.row = .writeItem := by
  rw [row_of_kind write]
  rcases bad with length | noItem
  · have illFormed : ¬ r.wellFormed = true := by simpa [wellFormed_iff, write, RequestKind.operandLength] using length
    exact if_neg illFormed
  · simp [noItem]

theorem row_writeItem {r : Request} {i : Item} (write : r.kind = some .writeItem) (length : r.payload.length = 11)
    (item : r.item = some i) : r.row = i.writeRow r.value := by
  have wellFormed : r.wellFormed = true := (wellFormed_iff r).2 ⟨_, write, length⟩
  rw [row_of_kind write]
  simp [wellFormed, item]

/-- R138, log 2: a unit that is not READY, or that no request awaits, takes nothing. -/
theorem takeRequest_idle {s : State} {row : RequestRow} {body : State → Request → State × Reply}
    (idle : s.mgmt.mode ≠ .ready ∨ s.mgmt.requests = []) : s.takeRequest row body = s := by
  unfold State.takeRequest
  split
  · rfl
  · rename_i waiting
    exact if_neg fun takes => idle.elim (· takes.1) (by simp [waiting])

theorem taken_eq (s : State) (r : Request) (rest : List Request) :
    s.taken r rest = ({ s with mgmt := { s.mgmt with
      requests := rest
      overflow := if rest = [] then false else s.mgmt.overflow
      owner := (s.mgmt.renew s.now r).owner } } : State).countMgmt .requestsTaken 1 := by
  have ⟨mode, leaseTime, lastCause⟩ : (s.mgmt.renew s.now r).mode = s.mgmt.mode ∧
      (s.mgmt.renew s.now r).leaseTime = s.mgmt.leaseTime ∧ (s.mgmt.renew s.now r).lastCause = s.mgmt.lastCause := by
    unfold Mgmt.renew
    split <;> [split; skip] <;> exact ⟨rfl, rfl, rfl⟩
  cases rest <;> simp [State.taken, State.modMgmt, mode, leaseTime, lastCause]

theorem exec_row_idle {s : State} {row : RequestRow} (high : s.resetLow = false)
    (idle : s.mgmt.mode ≠ .ready ∨ s.mgmt.requests = []) : exec row.instr s = .next s := by
  obtain ⟨body, e⟩ := exec_row row s
  rw [e, live_of_high high, takeRequest_idle idle]

section
variable {s : State} {r : Request} {rest : List Request} (heads : s.heads r rest)
include heads

theorem exec_row_other {row : RequestRow} (other : row ≠ r.row) : exec row.instr s = .next s := by
  obtain ⟨body, e⟩ := exec_row row s
  rw [e, live_of_heads heads, takeRequest_other heads other.symm]

theorem exec_row_badRequest (illFormed : r.wellFormed = false) :
    exec r.row.instr s = .next ((s.taken r rest).answered r .badRequest []) := by
  obtain ⟨body, e⟩ := exec_row r.row s
  rw [e, live_of_heads heads, takeRequest_badRequest heads rfl illFormed]

theorem exec_row_notOwner (wellFormed : r.wellFormed = true) (mutating : r.mutating = true)
    (notOwner : s.mgmt.owner.map Owner.addr ≠ some r.src) :
    exec r.row.instr s = .next ((s.taken r rest).answered r .notOwner (be16 s.ownerAddress)) := by
  obtain ⟨body, e⟩ := exec_row r.row s
  rw [e, live_of_heads heads, takeRequest_notOwner heads rfl wellFormed mutating notOwner]
end

/-- Settles O36: the catalogue kind by kind, then the taking by the checks it makes. -/
theorem takingAndRefusing : Obligations.TakingAndRefusing := by
  refine ⟨?_, fun _ => kind_none_of_code, fun _ _ => ⟨rfl, rfl, rfl, rfl⟩, mutating_iff, ?_, fun r => ⟨row_of_unknown,
    row_of_kind, row_of_kind, fun write => ⟨row_writeItem_refused write, fun _ => row_writeItem write⟩⟩,
    fun s row => exec_row_idle, fun s r rest heads => ⟨?_, fun row => exec_row_other heads, ?_, ?_, ?_⟩⟩
  · intro x mem
    fin_cases mem <;> exact ⟨fun r code => by rw [Request.kind, Request.code, code]; rfl, rfl⟩
  · intro x mem
    fin_cases mem <;> exact fun r => row_of_kind
  · rw [taken_eq]
    unfold Mgmt.renew
    cases owner : s.mgmt.owner with
    | none => simp only [owner]
    | some o => by_cases own : o.addr = r.src <;> simp [own, owner, deadlineAfter]
  · intro unknown
    have illFormed : r.wellFormed = false := by rw [Request.wellFormed, unknown]
    have refused := exec_row_badRequest heads illFormed
    rwa [row_of_unknown unknown] at refused
  · intro k kind length
    refine exec_row_badRequest heads (Bool.eq_false_iff.2 ?_)
    rw [Ne, wellFormed_iff]
    rintro ⟨k', kind', length'⟩
    cases kind.symm.trans kind'
    exact length length'
  · exact fun k kind length => exec_row_notOwner heads ((wellFormed_iff r).2 ⟨k, kind, length⟩)

/-! ### READ_EVENTS -/

theorem maxCountOk_iff (n : Nat) : maxCountOk n = true ↔ 1 ≤ n ∧ n ≤ 16 := by simp [maxCountOk]

section
variable {s : State} {r : Request} {rest : List Request} (admits : s.admits r rest .readEvents)
include admits

theorem exec_readEvents (noTake : r.flags.getLsbD 0 = false) : exec .readEvents s = .next
    ((s.taken r rest).answered r (if maxCountOk (r.opNat 0) then .ok else .badValue)
      (if maxCountOk (r.opNat 0) then s.events.readBytes (r.opNat 0) else [])) := by
  have row : r.row = .readEvents := by
    have ⟨_, kind, _⟩ := admits
    rw [row_of_kind kind]
    exact if_neg (Bool.eq_false_iff.1 noTake)
  refine (row_answers (body := readEventsBody) admits row (by decide)).trans ?_
  rw [readEventsBody]
  split <;> simp [Reply.done, Reply.refuse]

theorem exec_readEventsTake (take : r.flags.getLsbD 0 = true) : exec .readEventsTake s = .next
    (if maxCountOk (r.opNat 0) then ((s.taken r rest).modEvents fun e => { e with
        records := e.records.drop (r.opNat 0), lost := if r.flag1 then 0 else e.lost }).answered r .ok
          (s.events.readBytes (r.opNat 0))
      else (s.taken r rest).answered r .badValue []) := by
  have row : r.row = .readEventsTake := by
    have ⟨_, kind, _⟩ := admits
    rw [row_of_kind kind]
    exact if_pos take
  refine (row_answers (body := readEventsTakeBody) admits row (by decide)).trans ?_
  rw [readEventsTakeBody]
  split <;> simp [Reply.done, Reply.refuse]
end

/-- Settles O52: both rows by the check of the maximum count. -/
theorem readEventsAnswer : Obligations.ReadEventsAnswer := by
  rintro s u r rest n data rfl admits rfl rfl
  refine ⟨fun bad => ?_, fun least most => ?_⟩
  · have refused : ¬ maxCountOk (r.opNat 0) = true := by
      rw [maxCountOk_iff, Request.opNat]
      omega
    refine ⟨fun noTake => ?_, fun take => ?_⟩
    · rw [exec_readEvents admits noTake, if_neg refused, if_neg refused]
    · rw [exec_readEventsTake admits take, if_neg refused]
  · have ok : maxCountOk (r.opNat 0) = true := (maxCountOk_iff _).2 ⟨least, most⟩
    refine ⟨fun noTake => ?_, fun take => ?_⟩
    · rw [exec_readEvents admits noTake, if_pos ok, if_pos ok]
      rfl
    · rw [exec_readEventsTake admits take, if_pos ok, State.modEvents, taken_events]
      rfl

end Sys2Proof.Machine
end


section
/-! SUPPORT. The invariant of the node directory (R26, R30): every change of the directory keeps it, and no other operation
touches the directory. -/

namespace Sys2Proof.Machine

/-! ### The edge unit alone -/

/-- What `DirectoryOk` says, of the edge unit alone. -/
structure Edge.DirOk (e : Edge) : Prop where
  addr : ∀ {i d}, e.directory.get i = some d → d.addr ≠ 0x0000 ∧ d.addr ≠ 0xFFFF
  unique : ∀ {i j d x}, e.directory.get i = some d → e.directory.get j = some x → d.addr = x.addr → i = j
  flag : e.fullRefusal = true → ∀ i, (e.directory.get i).isSome = true

theorem directoryOk_iff (s : State) : DirectoryOk s ↔ s.edge.DirOk :=
  ⟨fun ⟨addr, unique, flag⟩ => ⟨addr _ _, unique _ _ _ _, flag⟩,
    fun h => ⟨fun _ _ => h.addr, fun _ _ _ _ => h.unique, h.flag⟩⟩

namespace Edge.DirOk
variable {e : Edge}

/-- The rest of the edge unit does not matter. -/
theorem congr {e' : Edge} (h : e.DirOk) (directory : e'.directory = e.directory)
    (fullRefusal : e'.fullRefusal = e.fullRefusal) : e'.DirOk where
  addr := by rw [directory]; exact h.addr
  unique := by rw [directory]; exact h.unique
  flag := by rw [directory, fullRefusal]; exact h.flag

/-- R30: whatever the new directory, a flag that stays set finds no free position. -/
theorem setDirectory {d : Tab (Option DirEntry) 64} (h : e.DirOk)
    (addr : ∀ {i x}, d.get i = some x → x.addr ≠ 0x0000 ∧ x.addr ≠ 0xFFFF)
    (unique : ∀ {i j x y}, d.get i = some x → d.get j = some y → x.addr = y.addr → i = j) : (e.setDirectory d).DirOk where
  addr := addr
  unique := unique
  flag set i := by
    obtain ⟨was, stays⟩ := (setDirectory_fullRefusal_iff e d).1 set
    have noneFree : ¬ ∃ i, d.get i = none := fun free => stays ⟨h.flag was, free⟩
    exact Option.isSome_iff_ne_none.2 fun free => noneFree ⟨i, free⟩

theorem removeEntries (h : e.DirOk) (gone : DirEntry → Bool) : (e.removeEntries gone).DirOk := by
  have kept : ∀ {i x}, (e.removeEntries gone).directory.get i = some x → e.directory.get i = some x := by
    intro i x hx
    rw [removeEntries_get] at hx
    split at hx
    · cases hx
    · rename_i d entry
      rw [entry]
      exact (Option.ite_none_left_eq_some.1 hx).2
  exact h.setDirectory (fun hx => h.addr (kept hx)) fun hx hy => h.unique (kept hx) (kept hy)

theorem freeEntry (h : e.DirOk) (i : DirPos) : (e.putEntry i none).DirOk := by
  have kept : ∀ {j x}, (e.directory.set i none).get j = some x → e.directory.get j = some x := fun {j x} hx => by
    rw [Tab.get_set] at hx
    exact (Option.ite_none_left_eq_some.1 hx).2
  exact h.setDirectory (fun hx => h.addr (kept hx)) fun hx hy => h.unique (kept hx) (kept hy)

/-- An entry whose address stands at no other position takes a position. -/
theorem putEntry (h : e.DirOk) {i : DirPos} {d : DirEntry} (valid : d.addr ≠ 0x0000 ∧ d.addr ≠ 0xFFFF)
    (new : ∀ {j x}, e.directory.get j = some x → x.addr = d.addr → j = i) : (e.putEntry i (some d)).DirOk := by
  have cases : ∀ {j x}, (e.directory.set i (some d)).get j = some x → (j = i ∧ x = d) ∨ e.directory.get j = some x := by
    intro j x hx
    rw [Tab.get_set] at hx
    split at hx
    · exact .inl ⟨by assumption, (Option.some.inj hx).symm⟩
    · exact .inr hx
  refine h.setDirectory (fun hx => ?_) fun hx hy same => ?_
  · rcases cases hx with ⟨-, rfl⟩ | old
    · exact valid
    · exact h.addr old
  · rcases cases hx with ⟨rfl, rfl⟩ | oldx <;> rcases cases hy with ⟨rfl, rfl⟩ | oldy
    · rfl
    · exact (new oldy same.symm).symm
    · exact new oldx same
    · exact h.unique oldx oldy same

/-- R26: the entry found by its address is replaced by one with the same address. -/
theorem replaceEntry (h : e.DirOk) {a : Half} {i : DirPos} {d x : DirEntry} (found : e.lookup a = some (i, d))
    (same : x.addr = a) : (e.putEntry i (some x)).DirOk := by
  obtain ⟨entry, rfl⟩ := lookup_some found
  exact h.putEntry (same ▸ h.addr entry) fun other eq => h.unique other entry (eq.trans same)

/-- R29, R32: a new address takes a position. -/
theorem newEntry (h : e.DirOk) {i : DirPos} {d : DirEntry} (valid : d.addr ≠ 0x0000 ∧ d.addr ≠ 0xFFFF)
    (new : e.lookup d.addr = none) : (e.putEntry i (some d)).DirOk :=
  h.putEntry valid fun entry same => absurd same (lookup_none new entry)

/-- R30: the flag is set at a full directory. -/
theorem setFlag (h : e.DirOk) (full : e.freePosition = none) : ({ e with fullRefusal := true } : Edge).DirOk :=
  ⟨h.addr, h.unique, fun _ => freePosition_none full⟩

/-- R27, R31. -/
theorem secondPasses (h : e.DirOk) : e.secondPasses.DirOk :=
  have advanced : ({ e with seconds := e.seconds + 1,
                            secondDeadline := e.secondDeadline + BitVec.ofNat 32 Config.second } : Edge).DirOk :=
    h.congr rfl rfl
  advanced.removeEntries _

/-- R40. -/
theorem restarted (h : e.DirOk) : e.restarted.DirOk :=
  have kept := h.removeEntries fun d => d.origin == .learned
  ⟨kept.addr, kept.unique, fun set => nomatch set⟩

theorem reset : Edge.reset.DirOk where
  addr h := by simp [Edge.reset] at h
  unique h := by simp [Edge.reset] at h
  flag h := nomatch h

end Edge.DirOk

/-! ### Frames that arrive -/

section
variable {s : State}

/-- R28 to R30: learning an address that a node may have. -/
theorem dirOk_learn (h : s.edge.DirOk) (k : EdgeId) {src : Half} (valid : src ≠ 0x0000 ∧ src ≠ 0xFFFF) :
    (s.learn k src).edge.DirOk := by
  cases found : s.edge.lookup src with
  | some x =>
    obtain ⟨i, d⟩ := x
    cases origin : d.origin with
    | pinned => rw [learn_pinned found origin]; split <;> simpa using h
    | learned =>
      have kept := h.replaceEntry (x := { d with port := k, lastSeen := s.edge.seconds }) found (lookup_some found).2
      rw [learn_learned found origin]; split <;> simpa using kept
  | none =>
    cases free : s.edge.freePosition with
    | some i => rw [learn_free found free]; exact h.newEntry valid found
    | none =>
      rw [learn_full found free]; split
      · exact h
      · simpa using h.setFlag free

/-- R38: what joins a return list does not stand in the directory. -/
theorem dirOk_returnAdmit (h : s.edge.DirOk) (t : TrunkId) (f : Frame) (k : EdgeId) :
    (State.returnAdmit t f s k).edge.DirOk := by
  unfold State.returnAdmit
  split
  · exact h
  · split
    · exact h
    · exact h.congr (by simp) (by simp)

theorem dirOk_returnPath (h : s.edge.DirOk) (t : TrunkId) (f : Frame) : (s.returnPath t f).edge.DirOk := by
  unfold State.returnPath
  split
  · split
    · exact h
    · exact List.foldlRecOn (motive := fun u : State => u.edge.DirOk) _ _ h fun _ hu k _ => dirOk_returnAdmit hu t f k
  · split
    · split
      · exact dirOk_returnAdmit h _ _ _
      · exact h
    · exact h

theorem dirOk_dispatchData (h : s.edge.DirOk) (p : Port) {f : Frame} (valid : f.src ≠ 0x0000 ∧ f.src ≠ 0xFFFF) :
    (s.dispatchData p f).edge.DirOk := by
  unfold State.dispatchData
  split
  · split
    · exact h
    · simpa using dirOk_learn h _ valid
  · split <;> [exact h; split <;> [exact h; exact dirOk_returnPath h _ _]]

/-- R9: the source of a valid frame is a node's address. -/
theorem src_of_validate {l : List Byte} {f : Frame} (valid : validate l = .ok f) : f.src ≠ 0x0000 ∧ f.src ≠ 0xFFFF := by
  obtain ⟨-, -, -, -, -, -, node, notAll, rfl⟩ := (validate_ok_iff l f).1 valid
  exact ⟨node, notAll⟩

theorem dirOk_arrive (h : s.edge.DirOk) (p : Port) (l : List Byte) : (s.arrive p l).edge.DirOk := by
  unfold State.arrive
  split
  · exact h
  · rename_i valid
    have counted : (s.countPort p .receiveGood 1).edge.DirOk := h
    unfold State.dispatch
    split <;> [simpa using h; split <;> [simpa using h; exact dirOk_dispatchData counted p (src_of_validate valid)]]

/-! ### Link reports, transmission ends and the restart -/

theorem dirOk_linkGoesDown (h : s.edge.DirOk) (p : Port) (receiving : Bool) : (s.linkGoesDown p receiving).edge.DirOk := by
  have reported : (s.downReported p receiving).edge = s.edge := by cases receiving <;> simp [State.downReported]
  rw [linkGoesDown_eq, mgmtLinkDown_edge]
  rcases port_cases p with ⟨k, rfl⟩ | ⟨t, rfl⟩
  · simp only [State.unitsLinkDown, side_edge, State.edgeLinkDown, loseReturns_edge, modEdge_edge, reported]
    exact (h.removeEntries _).congr rfl rfl
  · simpa [State.unitsLinkDown, reported] using h

theorem dirOk_transmissionEnds (h : s.edge.DirOk) (p : Port) (w : OnWire) (first : Bool) :
    (s.transmissionEnds p w first).edge.DirOk := by
  simp only [State.transmissionEnds, select_edge]
  unfold State.ownerEnds
  split
  · simpa using h
  · split
    · exact h.congr (by simp [State.returnEnds]) (by simp [State.returnEnds])
    · exact h
  · split
    · exact h
    · simpa using h

theorem dirOk_blockRestarts (h : s.edge.DirOk) (b : RestartBlock) : (s.blockRestarts b).edge.DirOk := by
  cases b with
  | edgeUnit => simpa [State.blockRestarts, State.edgeUnitRestarts] using h.restarted
  | linkLayer p => simp only [State.blockRestarts, State.linkLayerRestarts]; split <;> exact h
  | queueUnit =>
    simp only [State.blockRestarts, State.queueUnitRestarts]
    rw [foldl_windowEmptied]
    simpa using h
  | trunkUnit t => simpa [State.blockRestarts, State.trunkUnitRestarts] using h
  | steeringUnit | cellPool | managementUnit | eventUnit | counterBlock => exact h

theorem dirOk_restarts (h : s.edge.DirOk) : s.restarts.edge.DirOk := by
  have started : s.restartStarts.edge.DirOk := by unfold State.restartStarts; split <;> exact h
  have block : ∀ (u : State) (b : RestartBlock), u.edge.DirOk → (u.restartBlock b).edge.DirOk := fun u b hu => by
    unfold State.restartBlock
    split
    · exact dirOk_blockRestarts (s := u.modEvents _) hu b
    · exact hu
  have selected : ∀ (u : State) (p : Port), u.edge.DirOk → (s.selectAborted u p).edge.DirOk := fun u p hu => by
    unfold State.selectAborted
    split <;> simpa using hu
  unfold State.restarts
  dsimp only
  have taken := List.foldlRecOn (motive := fun u : State => u.edge.DirOk) s.events.nextOrder State.restartBlock
    (b := s.restartStarts.modEvents fun e => { e with orders := e.orders.tail }) started fun u hu b _ => block u b hu
  have asked := List.foldlRecOn (motive := fun u : State => u.edge.DirOk) (List.finRange 12) (State.selectAborted s) taken
    fun u hu p _ => selected u p hu
  split
  · exact h
  · split
    · simpa using asked
    · exact asked

/-! ### Requests -/

theorem dirOk_takeRequest {row : RequestRow} {body : State → Request → State × Reply}
    (executed : ∀ {u : State} (r : Request), u.edge.DirOk → (body u r).1.edge.DirOk) (h : s.edge.DirOk) :
    (s.takeRequest row body).edge.DirOk := by
  unfold State.takeRequest
  split
  · exact h
  · rename_i r rest _
    have taken : (s.taken r rest).edge.DirOk := by simpa using h
    split
    · simp only [respond_edge]
      unfold State.execute
      split <;> [exact taken; split <;> [exact taken; exact executed r taken]]
    · exact h

/-- A request whose execution leaves the edge unit alone. -/
theorem dirOk_takeRequest_of_edge {row : RequestRow} {body : State → Request → State × Reply}
    (same : ∀ (u : State) (r : Request), (body u r).1.edge = u.edge) (h : s.edge.DirOk) :
    (s.takeRequest row body).edge.DirOk :=
  dirOk_takeRequest (fun r hu => by rwa [same]) h

theorem dirOk_dirPinBody (r : Request) (h : s.edge.DirOk) : (dirPinBody s r).1.edge.DirOk := by
  unfold dirPinBody
  split <;> [exact h; split <;> [exact h; split]]
  · rename_i found
    exact h.replaceEntry found rfl
  · rename_i valid _ _ _ _ new
    split
    · exact h.newEntry (d := s.edge.pinnedEntry _ _) (not_or.1 valid) new
    · exact h

theorem dirOk_dirUnpinBody (r : Request) (h : s.edge.DirOk) : (dirUnpinBody s r).1.edge.DirOk := by
  unfold dirUnpinBody
  split
  · exact h
  · rename_i d found
    split <;> [exact h; split]
    · exact h.replaceEntry (x := { d with origin := .learned, lastSeen := s.edge.seconds }) found (lookup_some found).2
    · exact h.freeEntry _

end

/-! Which requests leave the edge unit alone -/

theorem queueStartBody_edge (s : State) (r : Request) : (queueStartBody s r).1.edge = s.edge := by
  refine onQueue_fst (P := fun u => u.edge = s.edge) r (fun q => ?_) rfl
  split <;> rfl
theorem queueHaltBody_edge (s : State) (r : Request) : (queueHaltBody s r).1.edge = s.edge := by
  refine onQueue_fst (P := fun u => u.edge = s.edge) r (fun q => ?_) rfl
  split <;> [rfl; simp [State.halt]; rfl]
theorem queueFlushBody_edge (s : State) (r : Request) : (queueFlushBody s r).1.edge = s.edge := by
  refine onQueue_fst (P := fun u => u.edge = s.edge) r (fun q => ?_) rfl
  split <;> [rfl; simp; rfl]
theorem queuePurgeBody_edge (s : State) (r : Request) : (queuePurgeBody s r).1.edge = s.edge := by
  refine onQueue_fst (P := fun u => u.edge = s.edge) r (fun q => ?_) rfl
  split <;> [rfl; exact purge_edge s q; exact purge_edge s q]
theorem subscribeBody_edge (s : State) (r : Request) : (subscribeBody s r).1.edge = s.edge := by
  unfold subscribeBody
  split <;> [rfl; split <;> [rfl; split <;> [rfl; split <;> [rfl; split <;> rfl]]]]
theorem unsubscribeBody_edge (s : State) (r : Request) : (unsubscribeBody s r).1.edge = s.edge := by
  unfold unsubscribeBody
  split <;> [rfl; (dsimp only; split <;> rfl)]
theorem eventAckBody_edge (s : State) (r : Request) : (eventAckBody s r).1.edge = s.edge := by
  unfold eventAckBody
  split <;> [rfl; split <;> [rfl; (dsimp only; split <;> simp)]]
theorem readEventsTakeBody_edge (s : State) (r : Request) : (readEventsTakeBody s r).1.edge = s.edge := by
  unfold readEventsTakeBody
  split <;> rfl
theorem tableWriteBody_edge (s : State) (r : Request) : (tableWriteBody s r).1.edge = s.edge := by
  unfold tableWriteBody
  split <;> [rfl; split <;> [rfl; split <;> rfl]]
theorem commitBody_edge (s : State) (r : Request) : (commitBody s r).1.edge = s.edge := by
  unfold commitBody
  split <;> rfl
theorem readCountersClearBody_edge (s : State) (r : Request) : (readCountersClearBody s r).1.edge = s.edge := by
  unfold readCountersClearBody
  split <;> rfl
theorem claimBody_edge (s : State) (r : Request) : (claimBody s r).1.edge = s.edge := by
  unfold claimBody
  split <;> [simp; split <;> rfl]
theorem releaseBody_edge (s : State) (r : Request) : (releaseBody s r).1.edge = s.edge := by
  unfold releaseBody
  split <;> [simp; rfl]

/-! Writes of items -/

section
variable {s : State}

theorem dirOk_writeEdgeAdmin (h : s.edge.DirOk) (k : EdgeId) (v : Nat) : (s.writeEdgeAdmin k v).1.edge.DirOk := by
  unfold State.writeEdgeAdmin
  split <;> [exact h; split <;> [exact h.congr rfl rfl; split <;> [skip; exact h]]]
  unfold State.edgeDisable
  dsimp only
  split <;> exact h.congr (by simp) (by simp)

theorem writeTrunkAdmin_edge (s : State) (t : TrunkId) (v : Nat) : (s.writeTrunkAdmin t v).1.edge = s.edge := by
  unfold State.writeTrunkAdmin
  split <;> [skip; split <;> rfl]
  unfold State.trunkEnable
  dsimp only
  split <;> simp

theorem writeReserve_edge (s : State) (a : AcctId) (n : Nat) (blocked : Bool) :
    (s.writeReserve a n blocked).1.edge = s.edge := by
  unfold State.writeReserve
  split <;> rfl
theorem writeCap_edge (s : State) (a : AcctId) (n : Nat) (blocked : Bool) : (s.writeCap a n blocked).1.edge = s.edge := by
  unfold State.writeCap
  split <;> rfl
theorem writeLowWater_edge (s : State) (v : Nat) : (s.writeLowWater v).1.edge = s.edge := by
  unfold State.writeLowWater
  split <;> [rfl; simp]

theorem dirOk_writeItem (h : s.edge.DirOk) (i : Item) (v : Nat) : (s.writeItem i v).1.edge.DirOk := by
  have ranged : ∀ (inRange : Bool) (t : State), t.edge.DirOk → (writeIf s inRange t).1.edge.DirOk :=
    fun _ _ ht => writeIf_fst (P := fun u => u.edge.DirOk) h ht
  have checked : ∀ (inRange allowed : Bool) (t : State), t.edge.DirOk → (writeIn s inRange allowed t).1.edge.DirOk :=
    fun _ _ _ ht => writeIn_fst (P := fun u => u.edge.DirOk) h fun _ _ => ht
  cases i with
  | ownAddress | lastResetCause | freeCells | freeDescriptors | generation | activeBank | syncState | timestamp
  | recordsLost | portLink | trunkState | queueState => exact h
  | defaultAction | defaultQueue | queuePriority => dsimp only [State.writeItem]; split <;> exact h
  | directoryAge => exact ranged _ _ (h.congr rfl rfl)
  | leaseTime | queueDrainLimit | threshold | frameLimit | ageLimit | arbitrationMode | collector | retryInterval
  | retryLimit | holdTime => exact ranged _ _ h
  | windowSize => exact checked _ _ _ h
  | queueTrunk | queueProfile => dsimp only [State.writeItem]; split <;> [exact h; exact checked _ _ _ h]
  | poolLowWater => dsimp only [State.writeItem]; rwa [writeLowWater_edge]
  | retReserve | queueReserve => dsimp only [State.writeItem]; rwa [writeReserve_edge]
  | retCap | queueCap => dsimp only [State.writeItem]; rwa [writeCap_edge]
  | portAdmin p =>
    dsimp only [State.writeItem]
    split <;> [exact dirOk_writeEdgeAdmin h _ v; rwa [writeTrunkAdmin_edge]]

theorem dirOk_writeItemBody (r : Request) (h : s.edge.DirOk) : (writeItemBody s r).1.edge.DirOk := by
  unfold writeItemBody
  split <;> [exact h; exact dirOk_writeItem h _ _]

/-! ### Every command -/

/-- Every command but the two of RESET_N acts through `live`, and leaves a directory that is in order. -/
theorem dirOk_exec (c : Instr) (reset : ∀ straps, c ≠ .hardReset straps) (low : c ≠ .resetNLow) (h : s.edge.DirOk) :
    ∃ u, exec c s = live s u ∧ u.edge.DirOk := by
  cases c with
  | hardReset straps => exact absurd rfl (reset straps)
  | resetNLow => exact absurd rfl low
  | linkUp p =>
    refine ⟨_, rfl, ?_⟩
    split <;> simpa [State.linkComesUp] using h
  | linkDown p receiving =>
    refine ⟨_, rfl, ?_⟩
    split <;> [exact dirOk_linkGoesDown h p receiving; exact h]
  | receptionAborted p =>
    refine ⟨_, rfl, ?_⟩
    split <;> exact h
  | frameArrival p l =>
    refine ⟨_, rfl, ?_⟩
    split <;> [exact dirOk_arrive h p l; exact h]
  | transmissionEnd p first =>
    refine ⟨_, rfl, ?_⟩
    split <;> [exact h; exact dirOk_transmissionEnds h p _ first]
  | directorySecondExpiry =>
    refine ⟨_, rfl, ?_⟩
    split <;> [exact h.secondPasses; exact h]
  | ageDeadlineExpiry q | drainDeadlineExpiry q =>
    refine ⟨_, rfl, ?_⟩
    split <;> simpa using h
  | holdDeadlineExpiry p =>
    refine ⟨_, rfl, ?_⟩
    split <;> [exact h; split <;> simpa using h]
  | retryDeadlineExpiry p seq =>
    refine ⟨_, rfl, ?_⟩
    split <;> [exact h; split <;> simpa using h]
  | leaseDeadlineExpiry =>
    refine ⟨_, rfl, ?_⟩
    split <;> [exact h; split <;> simpa [State.leaseExpires] using h]
  | responseWaitExpiry =>
    refine ⟨_, rfl, ?_⟩
    split <;> [split <;> simpa using h; exact h; exact h; exact h]
  | repeatDeadlineExpiry i =>
    refine ⟨_, rfl, ?_⟩
    split <;> simpa using h
  | syncStep =>
    refine ⟨_, rfl, ?_⟩
    split <;> [split <;> [skip; exact h]; exact h]
    unfold State.syncs
    dsimp only
    split <;> simpa using h
  | eventRaise b => exact ⟨_, rfl, by simpa using h⟩
  | restartBegin => exact ⟨_, rfl, dirOk_restarts h⟩
  | timestampTick => exact ⟨_, rfl, h⟩
  | identify | restart | unknownRequestKind | tableClear => exact ⟨_, rfl, dirOk_takeRequest_of_edge (fun _ _ => rfl) h⟩
  | readItem => exact ⟨_, rfl, dirOk_takeRequest_of_edge (by simp) h⟩
  | tableRead => exact ⟨_, rfl, dirOk_takeRequest_of_edge (by simp) h⟩
  | readHits => exact ⟨_, rfl, dirOk_takeRequest_of_edge (by simp) h⟩
  | queueStatus => exact ⟨_, rfl, dirOk_takeRequest_of_edge (by simp) h⟩
  | dirRead => exact ⟨_, rfl, dirOk_takeRequest_of_edge (by simp) h⟩
  | readEvents => exact ⟨_, rfl, dirOk_takeRequest_of_edge (by simp) h⟩
  | readCounters => exact ⟨_, rfl, dirOk_takeRequest_of_edge (by simp) h⟩
  | claim => exact ⟨_, rfl, dirOk_takeRequest_of_edge claimBody_edge h⟩
  | release => exact ⟨_, rfl, dirOk_takeRequest_of_edge releaseBody_edge h⟩
  | tableWrite => exact ⟨_, rfl, dirOk_takeRequest_of_edge tableWriteBody_edge h⟩
  | commit => exact ⟨_, rfl, dirOk_takeRequest_of_edge commitBody_edge h⟩
  | queueStart => exact ⟨_, rfl, dirOk_takeRequest_of_edge queueStartBody_edge h⟩
  | queueHalt => exact ⟨_, rfl, dirOk_takeRequest_of_edge queueHaltBody_edge h⟩
  | queueFlush => exact ⟨_, rfl, dirOk_takeRequest_of_edge queueFlushBody_edge h⟩
  | queuePurge => exact ⟨_, rfl, dirOk_takeRequest_of_edge queuePurgeBody_edge h⟩
  | subscribe => exact ⟨_, rfl, dirOk_takeRequest_of_edge subscribeBody_edge h⟩
  | unsubscribe => exact ⟨_, rfl, dirOk_takeRequest_of_edge unsubscribeBody_edge h⟩
  | eventAck => exact ⟨_, rfl, dirOk_takeRequest_of_edge eventAckBody_edge h⟩
  | readEventsTake => exact ⟨_, rfl, dirOk_takeRequest_of_edge readEventsTakeBody_edge h⟩
  | readCountersClear => exact ⟨_, rfl, dirOk_takeRequest_of_edge readCountersClearBody_edge h⟩
  | writeItem | writeEdgeAdminState | writeTrunkAdminEnabled | writeTrunkAdminDisabled | writeReserve | writeCap
  | writePoolLowWater => exact ⟨_, rfl, dirOk_takeRequest dirOk_writeItemBody h⟩
  | dirPin => exact ⟨_, rfl, dirOk_takeRequest dirOk_dirPinBody h⟩
  | dirUnpin => exact ⟨_, rfl, dirOk_takeRequest dirOk_dirUnpinBody h⟩
  | dirFlush => exact ⟨_, rfl, dirOk_takeRequest (fun _ hu => hu.removeEntries _) h⟩

end

theorem exec_directoryOk (c : Instr) (s t : State) (h : DirectoryOk s) (ht : exec c s = .next t) : DirectoryOk t := by
  rw [directoryOk_iff] at h ⊢
  by_cases reset : ∃ straps, c = .hardReset straps
  · obtain ⟨straps, rfl⟩ := reset
    cases ht
    exact Edge.DirOk.reset
  · by_cases low : c = .resetNLow
    · subst low
      cases ht
      exact h
    · obtain ⟨u, hexec, hu⟩ := dirOk_exec c (fun straps e => reset ⟨straps, e⟩) low h
      rw [hexec, live] at ht
      cases ht
      split
      · exact h
      · exact hu

/-- Settles O57: each change of the directory keeps its invariant, and every other operation leaves the directory alone. -/
theorem directoryKept : Obligations.DirectoryKept :=
  fun _ _ h ht => kept_by_step (P := DirectoryOk) (fun _ _ h => h) exec_directoryOk h ht

end Sys2Proof.Machine
end


section
/-! SUPPORT. The edge unit: link DOWN at an edge port, return frames, the one-second deadline (R24, R25, R27, R30, R31, R38,
R61, R62, R69). -/

namespace Sys2Proof.Machine

/-! ### Removed entries -/

/-- R25, R31, R34: the entries that a removal leaves; the removal of the entries that meet a proposition. -/
theorem removeEntries_get_of_iff (e : Edge) {gone : DirEntry → Bool} {P : DirEntry → Prop} [DecidablePred P]
    (meets : ∀ d, gone d = true ↔ P d) (i : DirPos) : (e.removeEntries gone).directory.get i =
      match e.directory.get i with
      | none => none
      | some d => if P d then none else some d := by
  rw [removeEntries_get]
  cases e.directory.get i with
  | none => rfl
  | some d => simp only [meets]

/-- R30: a removal clears the flag exactly when it gives a full directory a free position. -/
theorem removeEntries_fullRefusal_iff (e : Edge) (gone : DirEntry → Bool) :
    (e.removeEntries gone).fullRefusal = true ↔ e.fullRefusal = true ∧
      ¬ ((∀ i, (e.directory.get i).isSome = true) ∧ ∃ i, (e.removeEntries gone).directory.get i = none) :=
  setDirectory_fullRefusal_iff e _

/-! ### LINK_DOWN at an edge port -/

section
variable (s : State) (k : EdgeId) (receiving : Bool)

theorem linkGoesDown_edgePort : s.linkGoesDown k.port receiving =
    ((s.downReported k.port receiving).edgeLinkDown k).mgmtLinkDown k.port (s.link k.port).control := by
  simp [linkGoesDown_eq, State.unitsLinkDown]

/-- R25: the report reaches the edge unit with nothing changed but the link, the raises and the port's counters. -/
theorem downReported_edgePort : s.downReported k.port receiving = { s with
    links := (s.downReported k.port receiving).links
    events := (s.downReported k.port receiving).events
    counters := { s.counters with port := (s.downReported k.port receiving).counters.port } } := by
  have abort : ∀ u : State, (u.abort k.port).counters = u.counters := fun u => by
    unfold State.abort
    split <;> simp
  have counters : (s.downReported k.port receiving).counters =
      { s.counters with port := (s.downReported k.port receiving).counters.port } := by
    cases receiving <;> simp [State.downReported, State.countPort, abort]
  refine State.eq_of_fields ?_ ?_ ?_ ?_ rfl ?_ ?_ ?_ ?_ ?_ ?_ ?_ rfl counters <;>
    cases receiving <;> simp [State.downReported]

theorem edgeLinkDown_edge : (s.edgeLinkDown k).edge =
    { s.edge.removeEntries (fun d => d.port == k && d.origin == .learned) with returns := s.edge.returns.set k [] } := by
  simp [State.edgeLinkDown]

/-- R24, R25, R62: the cells of the frames lost go back in one release. -/
theorem loseReturns_pool (kept gone : List Frame) :
    (s.loseReturns k kept gone).pool = (s.release retAcct (gone.map returnCells).sum 0).pool :=
  (release_congr (s := s.modEdge _) (t := s) rfl rfl _ _ _).1
theorem loseReturns_events (kept gone : List Frame) :
    (s.loseReturns k kept gone).events = (s.release retAcct (gone.map returnCells).sum 0).events :=
  (release_congr (s := s.modEdge _) (t := s) rfl rfl _ _ _).2
theorem loseReturns_counters (kept gone : List Frame) :
    (s.loseReturns k kept gone).counters = (s.countPort k.port .returnLost gone.length).counters := by
  simp [State.loseReturns, State.countPort, State.modCounters]

theorem edgeLinkDown_pool :
    (s.edgeLinkDown k).pool = (s.release retAcct ((s.edge.returns.get k).map returnCells).sum 0).pool := by
  rw [State.edgeLinkDown, loseReturns_pool]
  exact (release_congr (s := s.modEdge _) (t := s) rfl rfl _ _ _).1

theorem edgeLinkDown_returnLost : (s.edgeLinkDown k).portCounter k.port .returnLost =
    satAdd (s.portCounter k.port .returnLost) (s.edge.returns.get k).length := by
  rw [State.edgeLinkDown, portCounter_congr (congrArg Counters.port (loseReturns_counters _ k _ _)), countPort_self]
  rfl
end

/-- Settles O7: the report up to the edge unit, then the directory, the return list and its release. -/
theorem linkDownAtEdgePort : Obligations.LinkDownAtEdgePort := by
  intro k receiving s high up
  have reported := downReported_edgePort s k receiving
  have edge : (s.downReported k.port receiving).edge = s.edge := by rw [reported]
  have pool : (s.downReported k.port receiving).pool = s.pool := by rw [reported]
  have down : (s.linkGoesDown k.port receiving).edge = { s.edge.removeEntries (fun d => d.port == k && d.origin == .learned) with
      returns := s.edge.returns.set k [] } := by
    rw [linkGoesDown_edgePort, mgmtLinkDown_edge, edgeLinkDown_edge, edge]
  refine ⟨s.linkGoesDown k.port receiving, by rw [exec_linkDown high, if_pos up], ?_, ?_, ?_, ?_, ?_, ?_, ?_, ?_, ?_⟩
  · rw [linkGoesDown_edgePort, mgmtLinkDown_queues, edgeLinkDown_queues, reported]
  · rw [linkGoesDown_edgePort, mgmtLinkDown_trunks, edgeLinkDown_trunks, reported]
  · rw [linkGoesDown_edgePort, mgmtLinkDown_counters_queue, edgeLinkDown_counters_queue, reported]
  · rw [linkGoesDown_edgePort, mgmtLinkDown_counters_trunk, edgeLinkDown_counters_trunk, reported]
  · rw [down]
    rfl
  · rw [down]
    exact removeEntries_get_of_iff s.edge (by simp)
  · rw [down]
    exact removeEntries_fullRefusal_iff s.edge _
  · have before : (s.downReported k.port receiving).portCounter k.port .returnLost = s.portCounter k.port .returnLost := by
      simp [downReported_portCounter]
    rw [linkGoesDown_edgePort, portCounter_congr (mgmtLinkDown_counters_port _ _ _), edgeLinkDown_returnLost, before, edge]
  · rw [linkGoesDown_edgePort, mgmtLinkDown_pool, edgeLinkDown_pool, edge, release_pool, pool]
    rfl

/-! ### Return frames -/

section
variable {t : TrunkId} {f : Frame} {s : State} {k : EdgeId}

theorem returnAdmit_listFull (full : 32 ≤ (s.edge.returns.get k).length) :
    State.returnAdmit t f s k = s.countPort t.port .returnFull 1 := if_pos full

theorem returnAdmit_refused (room : (s.edge.returns.get k).length < 32) {why : PoolRefusal}
    (refused : s.pool.test retAcct (returnCells f) false = some why) :
    State.returnAdmit t f s k = s.countPort t.port .noCells 1 := by
  rw [State.returnAdmit, if_neg (by simpa [Config.returnListMax] using room), refused]

theorem returnAdmit_granted (room : (s.edge.returns.get k).length < 32)
    (granted : s.pool.test retAcct (returnCells f) false = none) : State.returnAdmit t f s k =
      ((s.grantCells retAcct (returnCells f) false).modEdge fun e =>
        { e with returns := e.returns.upd k fun l => l ++ [f] }).edgeSelect k := by
  rw [State.returnAdmit, if_neg (by simpa [Config.returnListMax] using room), granted]
end

/-- R61: a request without a descriptor is refused by the cap or by the shared free cells. -/
theorem test_without_descriptor (s : State) (a : AcctId) (n : Nat) : s.pool.test a n false =
    if (s.account a).cap < (s.account a).inUse + n ∨ (s.account a).unused + s.pool.freeCells < n + s.pool.unusedSum then
      some .noCells
    else none := by
  rw [Pool.test, ite_or]
  rfl

/-- Settles O20: the list's room first, then the two tests of the pool for the frame's cells. -/
theorem returnFrameAdmission : Obligations.ReturnFrameAdmission := by
  rintro t f s k n rfl
  have cells : returnCells f = (10 + f.payload.length + 63) / 64 := rfl
  refine ⟨returnAdmit_listFull, fun room => ⟨fun refused => ?_, fun capped covered => ?_⟩⟩
  · exact returnAdmit_refused room (by rw [test_without_descriptor, cells, if_pos refused])
  · have granted : s.pool.test retAcct (returnCells f) false = none := by
      rw [test_without_descriptor, cells, if_neg (by omega)]
    refine ⟨_, returnAdmit_granted room granted, ?_, ?_, by rw [← cells]; rfl, by rw [← cells]; rfl⟩
    · apply State.eq_of_fields <;> simp
    · simp [Tab.upd]

/-! ### The one-second deadline -/

theorem exec_directorySecondExpiry {s : State} (high : s.resetLow = false) : exec .directorySecondExpiry s =
    .next (if reached s.now s.edge.secondDeadline then s.modEdge Edge.secondPasses else s) := live_of_high high _

theorem aged_iff (e : Edge) (d : DirEntry) : e.aged d = true ↔
    d.origin = .learned ∧ e.directoryAge ≠ 0 ∧ e.directoryAge < (e.seconds - d.lastSeen).toNat := by
  simp [Edge.aged, and_assoc]

/-- Settles O26: the aging scan is a removal with the advanced second count. -/
theorem directorySecondPasses : Obligations.DirectorySecondPasses := by
  intro s high
  rw [exec_directorySecondExpiry high]
  refine ⟨fun early => by rw [early]; rfl, fun due => ⟨s.modEdge Edge.secondPasses, by rw [if_pos due], rfl, ?_, ?_⟩⟩
  · exact removeEntries_get_of_iff _ (aged_iff _)
  · exact removeEntries_fullRefusal_iff _ _

end Sys2Proof.Machine
end


section
/-! SUPPORT. Requests that read, directory requests, and the writes of an admin state (R24, R30, R32 to R35, R90, R97, R98,
R104, R150). -/

namespace Sys2Proof.Machine

/-! ### IDENTIFY, QUEUE_STATUS and DIR_READ -/

section
variable {s : State} {r : Request} {rest : List Request}

theorem kind_of_admits {k : RequestKind} (admits : s.admits r rest k) : r.kind = some k := by
  obtain ⟨-, kind, -⟩ := admits
  exact kind

theorem exec_identify (admits : s.admits r rest .identify) :
    exec .identify s = .next ((s.taken r rest).answered r .ok (s.taken r rest).identityBytes) :=
  row_answers (body := identifyBody) admits (row_of_kind (kind_of_admits admits)) (by decide)

theorem exec_queueStatus (admits : s.admits r rest .queueStatus) : exec .queueStatus s = .next
    ((queueStatusBody (s.taken r rest) r).1.answered r (queueStatusBody (s.taken r rest) r).2.status
      (queueStatusBody (s.taken r rest) r).2.data) :=
  row_answers admits (row_of_kind (kind_of_admits admits)) (by decide)

theorem exec_dirRead (admits : s.admits r rest .dirRead) : exec .dirRead s = .next
    ((dirReadBody (s.taken r rest) r).1.answered r (dirReadBody (s.taken r rest) r).2.status
      (dirReadBody (s.taken r rest) r).2.data) :=
  row_answers admits (row_of_kind (kind_of_admits admits)) (by decide)
end

theorem queueStatusBody_badIndex {r : Request} (s : State) (above : 16 ≤ (r.op 0).toNat) :
    queueStatusBody s r = (s, .refuse .badIndex) := by
  rw [queueStatusBody, onQueue, Request.opNat, index_none above]
theorem queueStatusBody_ok {r : Request} {q : QueueId} (s : State) (names : (r.op 0).toNat = q.val) :
    queueStatusBody s r = (s, .done (s.queueStatusBytes q)) := by
  rw [queueStatusBody, onQueue, Request.opNat, index_of_eq names]

theorem dirReadBody_badIndex {r : Request} (s : State) (above : 64 ≤ (r.op 0).toNat) :
    dirReadBody s r = (s, .refuse .badIndex) := by
  rw [dirReadBody, Request.opNat, index_none above]
theorem dirReadBody_ok {r : Request} {i : DirPos} (s : State) (names : (r.op 0).toNat = i.val) :
    dirReadBody s r = (s, .done (s.edge.readBytes i)) := by
  rw [dirReadBody, Request.opNat, index_of_eq names]

/-- R149, R150: the identity bytes, written out. -/
theorem identityBytes_eq (s : State) : s.identityBytes =
    [0x5A, 0x31, 0x00, 0x84, 1] ++ be16 s.ownAddress ++ be16 s.steer.generation ++
      [if s.steer.active = .a then 0 else 1] ++ be16 ((s.mgmt.owner.map Owner.addr).getD 0x0000) ++
      [if s.mgmt.lastCause = .power then 1 else 2] := by
  have bank : byteOf s.steer.active.code = if s.steer.active = .a then 0 else 1 := by cases s.steer.active <;> rfl
  have cause : byteOf s.mgmt.lastCause.code = if s.mgmt.lastCause = .power then 1 else 2 := by
    cases s.mgmt.lastCause <;> rfl
  rw [State.identityBytes, bank, cause]
  rfl

/-- R90, R149: the queue status bytes, written out. -/
theorem queueStatusBytes_eq (s : State) (q : QueueId) : s.queueStatusBytes q =
    [byteOf (match (s.queue q).state with | .off => 0 | .active => 1 | .halting => 2)] ++
      be16n ((s.queue q).openBatch.elim 0 fun b => b.byteSize) ++
      [byteOf ((s.queue q).openBatch.elim 0 fun b => b.members.length)] ++ be16n (s.queue q).ready.length ++
      be16n (s.queue q).outstanding ++ be16n (s.account q.acct).inUse := by
  have size : (s.queue q).openSize = (s.queue q).openBatch.elim 0 fun b => b.byteSize := by
    unfold Queue.openSize
    cases (s.queue q).openBatch <;> rfl
  have count : (s.queue q).openCount = (s.queue q).openBatch.elim 0 fun b => b.members.length := by
    unfold Queue.openCount
    cases (s.queue q).openBatch <;> rfl
  rw [State.queueStatusBytes, size, count]
  rfl

/-- R35, R149: the bytes of a free and of an occupied position. -/
theorem readBytes_free {e : Edge} {i : DirPos} (free : e.directory.get i = none) :
    e.readBytes i = [0, 0, 0, 0, 0, 0, 0, 0, 0] := by
  rw [Edge.readBytes, free]
  rfl
theorem readBytes_occupied {e : Edge} {i : DirPos} {d : DirEntry} (entry : e.directory.get i = some d) : e.readBytes i =
    [1] ++ be16 d.addr ++ [byteOf d.port.val, if d.origin = .learned then 0 else 1] ++ be32 (e.seconds - d.lastSeen) := by
  have origin : byteOf d.origin.code = if d.origin = .learned then 0 else 1 := by cases d.origin <;> rfl
  rw [Edge.readBytes, entry, ← origin]

/-- Settles O38: each row's answer, with its bytes written out. -/
theorem readRequestsAnswer : Obligations.ReadRequestsAnswer := by
  refine fun s r rest => ⟨fun admits => ?_, fun admits => ⟨fun above => ?_, fun q names => ?_⟩,
    fun admits => ⟨fun above => ?_, fun i names => ⟨fun free => ?_, fun d entry => ?_⟩⟩⟩
  · rw [exec_identify admits, identityBytes_eq, taken_ownAddress, taken_steer, taken_ownerAddr, taken_lastCause]
  · rw [exec_queueStatus admits, queueStatusBody_badIndex _ above]
    rfl
  · rw [exec_queueStatus admits, queueStatusBody_ok _ names, queueStatusBytes_eq, taken_queue, taken_account]
    rfl
  · rw [exec_dirRead admits, dirReadBody_badIndex _ above]
    rfl
  · rw [exec_dirRead admits, dirReadBody_ok _ names, taken_edge, readBytes_free free]
    rfl
  · rw [exec_dirRead admits, dirReadBody_ok _ names, taken_edge, readBytes_occupied entry]
    rfl

/-! ### DIR_PIN, DIR_UNPIN and DIR_FLUSH -/

section
variable {s : State} {r : Request} {rest : List Request}

theorem exec_dirPin (admits : s.admits r rest .dirPin) : exec .dirPin s = .next
    ((dirPinBody (s.taken r rest) r).1.answered r (dirPinBody (s.taken r rest) r).2.status
      (dirPinBody (s.taken r rest) r).2.data) :=
  row_answers admits (row_of_kind (kind_of_admits admits)) (by decide)

theorem exec_dirUnpin (admits : s.admits r rest .dirUnpin) : exec .dirUnpin s = .next
    ((dirUnpinBody (s.taken r rest) r).1.answered r (dirUnpinBody (s.taken r rest) r).2.status
      (dirUnpinBody (s.taken r rest) r).2.data) :=
  row_answers admits (row_of_kind (kind_of_admits admits)) (by decide)

theorem exec_dirFlush (admits : s.admits r rest .dirFlush) : exec .dirFlush s = .next
    ((dirFlushBody (s.taken r rest) r).1.answered r .ok (dirFlushBody (s.taken r rest) r).2.data) :=
  row_answers (body := dirFlushBody) admits (row_of_kind (kind_of_admits admits)) (by decide)
end

section
variable {s : State} {r : Request}

theorem dirPinBody_badValue (bad : r.op16 0 = 0x0000 ∨ r.op16 0 = 0xFFFF ∨ 8 ≤ (r.op 2).toNat) :
    dirPinBody s r = (s, .refuse .badValue) := by
  unfold dirPinBody
  split
  · rfl
  · rename_i valid
    have above : 8 ≤ (r.op 2).toNat := by
      rcases bad with zero | all | above
      · exact absurd (.inl zero) valid
      · exact absurd (.inr all) valid
      · exact above
    rw [Request.opNat, index_none above]

variable (notZero : r.op16 0 ≠ 0x0000) (notAll : r.op16 0 ≠ 0xFFFF) {k : EdgeId} (names : (r.op 2).toNat = k.val)
include notZero notAll names

/-- R32: the entry is pinned where the address stands, or at the lowest free position. -/
theorem dirPinBody_ok {i : DirPos} (position : (∃ d, s.edge.lookup (r.op16 0) = some (i, d)) ∨
    (s.edge.lookup (r.op16 0) = none ∧ s.edge.freePosition = some i)) : dirPinBody s r =
      (s.modEdge fun e => e.putEntry i (some (e.pinnedEntry (r.op16 0) k)), .done [byteOf i.val]) := by
  have valid : ¬ (r.op16 0 = Config.noNode ∨ r.op16 0 = Config.broadcast) := not_or.2 ⟨notZero, notAll⟩
  rw [dirPinBody, if_neg valid, Request.opNat, index_of_eq names]
  rcases position with ⟨d, found⟩ | ⟨new, free⟩
  · rw [found]
  · rw [new, free]

theorem dirPinBody_noResource (new : s.edge.lookup (r.op16 0) = none) (full : s.edge.freePosition = none) :
    dirPinBody s r = (s, .refuse .noResource) := by
  have valid : ¬ (r.op16 0 = Config.noNode ∨ r.op16 0 = Config.broadcast) := not_or.2 ⟨notZero, notAll⟩
  rw [dirPinBody, if_neg valid, Request.opNat, index_of_eq names, new, full]
end

section
variable {s : State} {r : Request}

theorem dirUnpinBody_absent (new : s.edge.lookup (r.op16 0) = none) : dirUnpinBody s r = (s, .refuse .badIndex) := by
  rw [dirUnpinBody, new]

variable {i : DirPos} {d : DirEntry} (found : s.edge.lookup (r.op16 0) = some (i, d))
include found

theorem dirUnpinBody_learned (learned : d.origin = .learned) : dirUnpinBody s r = (s, .done [0]) := by
  simp only [dirUnpinBody, found, learned]

theorem dirUnpinBody_up (pinned : d.origin = .pinned) (up : (s.link d.port.port).up = true) : dirUnpinBody s r =
    (s.modEdge fun e => e.putEntry i (some { d with origin := .learned, lastSeen := e.seconds }), .done [0]) := by
  simp only [dirUnpinBody, found, pinned, up, if_true]

theorem dirUnpinBody_down (pinned : d.origin = .pinned) (down : (s.link d.port.port).up = false) :
    dirUnpinBody s r = (s.modEdge fun e => e.putEntry i none, .done [1]) := by
  simp only [dirUnpinBody, found, pinned, down, Bool.false_eq_true, if_false]
end

/-- R30: the flag after a position becomes free. -/
theorem putEntry_none_fullRefusal (e : Edge) (i : DirPos) :
    ((∀ j, (e.directory.get j).isSome = true) → (e.putEntry i none).fullRefusal = false) ∧
      ((∃ j, e.directory.get j = none) → (e.putEntry i none).fullRefusal = e.fullRefusal) := by
  have flag := setDirectory_fullRefusal_iff e (e.directory.set i none)
  constructor
  · intro full
    refine Bool.eq_false_iff.2 fun set => ?_
    obtain ⟨-, stays⟩ := flag.1 set
    exact stays ⟨full, i, Tab.get_set_self _ _ _⟩
  · rintro ⟨j, free⟩
    have notFull : ¬ ∀ j, (e.directory.get j).isSome = true := fun full => by simpa [free] using full j
    exact Bool.eq_iff_iff.2 (flag.trans (and_iff_left fun ⟨full, _⟩ => notFull full))

/-- Settles O49: the three bodies case by case; an entry put in place leaves the flag, a position freed clears it where the
directory was full. -/
theorem directoryRequests : Obligations.DirectoryRequests := by
  rintro s u r rest rfl
  have taken : (s.taken r rest).edge = s.edge := taken_edge s r rest
  refine ⟨fun admits => ⟨fun bad => ?_, fun notZero notAll k names => ⟨fun i position => ?_, fun new full => ?_⟩⟩,
    fun admits => ⟨fun absent => ?_, fun i d found => ⟨fun learned => ?_, fun pinned up => ?_, fun pinned down =>
      ⟨s.edge.putEntry i none, ?_, rfl, putEntry_none_fullRefusal s.edge i⟩⟩⟩,
    fun admits => ⟨s.edge.removeEntries DirEntry.isLearned, ?_, rfl, ?_, removeEntries_fullRefusal_iff _ _⟩⟩
  · rw [exec_dirPin admits, dirPinBody_badValue bad]
    rfl
  · rw [exec_dirPin admits, dirPinBody_ok notZero notAll names (by simpa only [taken] using position)]
    simp only [State.modEdge, putEntry_some, taken]
    rfl
  · rw [exec_dirPin admits, dirPinBody_noResource notZero notAll names (by rw [taken, new]) (by rw [taken, full])]
    rfl
  · rw [exec_dirUnpin admits, dirUnpinBody_absent (by rw [taken, absent])]
    rfl
  · rw [exec_dirUnpin admits, dirUnpinBody_learned (by rw [taken, found]) learned]
    rfl
  · rw [exec_dirUnpin admits, dirUnpinBody_up (by rw [taken, found]) pinned (by rw [taken_link, up])]
    simp only [State.modEdge, putEntry_some, taken]
    rfl
  · rw [exec_dirUnpin admits, dirUnpinBody_down (by rw [taken, found]) pinned (by rw [taken_link, down])]
    simp only [State.modEdge, taken]
    rfl
  · rw [exec_dirFlush admits, dirFlushBody, State.modEdge, taken]
    rfl
  · exact removeEntries_get_of_iff s.edge (by simp [DirEntry.isLearned])

/-! ### Writes of an admin state -/

theorem modTrunk_congr {s : State} {t : TrunkId} {f g : Trunk → Trunk} (h : f (s.trunk t) = g (s.trunk t)) :
    s.modTrunk t f = s.modTrunk t g := by
  simp only [State.modTrunk, Tab.upd]
  rw [show f (s.trunks.get t) = g (s.trunks.get t) from h]

section
variable (s : State)

theorem writeItem_edgeAdmin (k : EdgeId) (v : Nat) : s.writeItem (.portAdmin k.port) v = s.writeEdgeAdmin k v := by
  simp only [State.writeItem, side_edge]
theorem writeItem_trunkAdmin (t : TrunkId) (v : Nat) : s.writeItem (.portAdmin t.port) v = s.writeTrunkAdmin t v := by
  simp only [State.writeItem, side_trunk]

theorem sendsReturn_iff (k : EdgeId) :
    s.sendsReturn k = true ↔ ∃ w, (s.link k.port).wire = some w ∧ w.owner = .returnFrame := by
  unfold State.sendsReturn
  cases (s.link k.port).wire <;> simp

/-- R24: a disable keeps a head that is on the wire, and loses every other return frame. -/
theorem edgeDisable_eq (k : EdgeId) {kept gone : List Frame} (list : s.edge.returns.get k = kept ++ gone)
    (sending : s.sendsReturn k = true → kept.length = min 1 (s.edge.returns.get k).length)
    (silent : s.sendsReturn k = false → kept = []) :
    s.edgeDisable k = (s.modEdge fun e => { e with enabled := e.enabled.set k false }).loseReturns k kept gone := by
  unfold State.edgeDisable
  cases sends : s.sendsReturn k with
  | false =>
    obtain rfl := silent sends
    simp [list]
  | true =>
    have one := sending sends
    rw [list] at one ⊢
    cases kept with
    | nil =>
      have none : gone = [] := by
        rw [← List.length_eq_zero_iff]
        simp only [List.length_nil, List.nil_append] at one
        omega
      simp [none]
    | cons f more =>
      have alone : more = [] := by
        rw [← List.length_eq_zero_iff]
        simp only [List.length_cons, List.length_append] at one
        omega
      simp [alone]
end

section
variable {s : State} {t : TrunkId}

/-- R97: an enable by the trunk state. -/
theorem trunkEnable_disabled (state : (s.trunk t).state = .disabled) : s.trunkEnable t = (s.modTrunk t fun k =>
    { k with enabled := true, state := if (s.link t.port).up then .running else .waiting }).trunkSelect t := by
  rw [State.trunkEnable, if_pos (.inl state)]
  refine congrArg (fun u : State => u.trunkSelect t) (modTrunk_congr ?_)
  simp [Trunk.enable, state]
theorem trunkEnable_stopping (state : (s.trunk t).state = .stopping) : s.trunkEnable t =
    (s.modTrunk t fun k => { k with enabled := true, state := .running }).trunkSelect t := by
  rw [State.trunkEnable, if_pos (.inr state)]
  refine congrArg (fun u : State => u.trunkSelect t) (modTrunk_congr ?_)
  simp [Trunk.enable, state]
theorem trunkEnable_holding (state : (s.trunk t).state = .holding) : s.trunkEnable t =
    s.modTrunk t fun k => { k with enabled := true, stopRequested := false } := by
  rw [State.trunkEnable, if_neg (by simp [state])]
  exact modTrunk_congr (by simp [Trunk.enable, state])
theorem trunkEnable_enabled (state : (s.trunk t).state = .running ∨ (s.trunk t).state = .waiting) : s.trunkEnable t =
    s.modTrunk t fun k => { k with enabled := true } := by
  rcases state with state | state <;>
  · rw [State.trunkEnable, if_neg (by simp [state])]
    exact modTrunk_congr (by simp [Trunk.enable, state])

/-- R98: a disable by the trunk state. -/
theorem trunkDisable_running (state : (s.trunk t).state = .running) : s.trunkDisable t = s.modTrunk t fun k =>
    { k with enabled := false, state := if (s.trunk t).bundles = [] then .disabled else .stopping } :=
  modTrunk_congr (by simp [Trunk.disable, state])
theorem trunkDisable_waiting (state : (s.trunk t).state = .waiting) : s.trunkDisable t =
    s.modTrunk t fun k => { k with enabled := false, state := .disabled } :=
  modTrunk_congr (by simp [Trunk.disable, state])
theorem trunkDisable_holding (state : (s.trunk t).state = .holding) : s.trunkDisable t =
    s.modTrunk t fun k => { k with enabled := false, stopRequested := true } :=
  modTrunk_congr (by simp [Trunk.disable, state])
theorem trunkDisable_stopped (state : (s.trunk t).state = .disabled ∨ (s.trunk t).state = .stopping) :
    s.trunkDisable t = s.modTrunk t fun k => { k with enabled := false } := by
  rcases state with state | state <;> exact modTrunk_congr (by simp [Trunk.disable, state])
end

/-- Settles O42: the edge ports by the value and the list's split, the trunk ports by the trunk state. -/
theorem adminWrites : Obligations.AdminWrites := by
  refine ⟨fun s k v => ?_, fun s t v => ?_⟩
  · rw [writeItem_edgeAdmin]
    refine ⟨fun above => if_pos above, ?_, ?_, ?_⟩
    · rintro rfl
      rfl
    · rintro rfl disabled
      simp [State.writeEdgeAdmin, disabled]
    · rintro rfl enabled kept gone list sending silent
      have eq := edgeDisable_eq s k list (fun sends => sending ((sendsReturn_iff s k).1 sends)) fun idle =>
        silent fun sends => Bool.eq_false_iff.1 idle ((sendsReturn_iff s k).2 sends)
      refine ⟨s.edgeDisable k, by simp [State.writeEdgeAdmin, enabled], ?_, ?_, ?_, ?_, ?_⟩
      · rw [eq]
        apply State.eq_of_fields <;> simp
      · rw [eq, loseReturns_edge]
        rfl
      · rw [eq, loseReturns_pool]
        exact (release_congr (s := s.modEdge _) (t := s) rfl rfl _ _ _).1
      · rw [eq, loseReturns_events]
        exact (release_congr (s := s.modEdge _) (t := s) rfl rfl _ _ _).2
      · rw [eq, loseReturns_counters]
        rfl
  · rw [writeItem_trunkAdmin]
    refine ⟨fun above => ?_, ?_, ?_⟩
    · rw [State.writeTrunkAdmin, if_neg (by omega), if_neg (by omega)]
    · rintro rfl
      rw [State.writeTrunkAdmin, if_pos rfl]
      exact ⟨fun state => by rw [trunkEnable_disabled state], fun state => by rw [trunkEnable_stopping state],
        fun state => by rw [trunkEnable_holding state], fun state => by rw [trunkEnable_enabled state]⟩
    · rintro rfl
      rw [State.writeTrunkAdmin, if_neg (by decide), if_pos rfl]
      exact ⟨fun state => by rw [trunkDisable_running state], fun state => by rw [trunkDisable_waiting state],
        fun state => by rw [trunkDisable_holding state], fun state => by rw [trunkDisable_stopped state]⟩

/-! ### HARD_RESET -/

/-- R71: the accounts after a hard reset. -/
theorem account_afterHardReset (straps : BitVec 6) (l : List Instr) (a : AcctId) :
    (State.afterHardReset straps l).account a =
      if a = retAcct then { inUse := 0, reserve := 64, cap := 512 } else { inUse := 0, reserve := 0, cap := 256 } := by
  simp only [State.account, State.afterHardReset, Pool.reset, Tab.get_set, Tab.get_replicate]
  rfl

theorem acct_ne_retAcct (q : QueueId) : q.acct ≠ retAcct := by
  revert q
  decide

/-- Settles O3: every field by its reset value, the places of the tables by `Tab.get_replicate`. -/
theorem hardResetValues : Obligations.HardResetValues := by
  intro straps s
  refine ⟨_, rfl, ?_⟩
  simp only [modEvents_pending, modEvents_resetLow, modEvents_now, modEvents_ownAddress, modEvents_link, modEvents_edge,
    modEvents_steer, modEvents_pool, modEvents_account, modEvents_queue, modEvents_profile, modEvents_trunk, modEvents_mgmt,
    modEvents_events, account_afterHardReset, acct_ne_retAcct, if_false, if_true]
  simp [State.afterHardReset, State.link, State.queue, State.profile, State.trunk, State.slot, State.portCounter,
    State.queueCounter, State.trunkCounter, State.mgmtCounter, Link.reset, Edge.reset, Steer.reset, Pool.reset, Queue.reset,
    Profile.reset, Trunk.reset, Mgmt.reset, EventUnit.reset, Slot.reset, Counters.reset, Config.ownBase, Config.second,
    Config.cells, Config.descriptors]

end Sys2Proof.Machine
end


section
/-! SUPPORT. The restart, block by block: the one release of several batches with its one comparison (R62, R69), and the state
that each block's restart leaves (R40, R72, R94, R116, R135, R154). -/

namespace Sys2Proof.Machine

/-! ### The comparison with low-water -/

section
variable {s : State}

theorem monitor_recovers (low : s.pool.low = true) (above : s.pool.lowWater + 64 ≤ s.pool.freeCells) : s.monitor =
    (s.modPool fun p => { p with low := false }).raise .cellPool [raiseOf .poolRecovered 0 s.pool.freeCells] := by
  rw [State.monitor, if_pos low]
  exact if_pos above

theorem monitor_falls (notLow : s.pool.low = false) (below : s.pool.freeCells < s.pool.lowWater) : s.monitor =
    (s.modPool fun p => { p with low := true }).raise .cellPool [raiseOf .poolLow 0 s.pool.freeCells] := by
  rw [State.monitor, if_neg (by simp [notLow])]
  exact if_pos below

theorem monitor_within (band : (s.pool.low = true ∧ s.pool.freeCells < s.pool.lowWater + 64) ∨
    (s.pool.low = false ∧ s.pool.lowWater ≤ s.pool.freeCells)) : s.monitor = s := by
  rcases band with ⟨low, below⟩ | ⟨notLow, above⟩
  · rw [State.monitor, if_pos low]
    exact if_neg (Nat.not_le.2 below)
  · rw [State.monitor, if_neg (by simp [notLow])]
    exact if_neg (Nat.not_lt.2 above)
end

/-! ### One release of several batches -/

/-- R62: the pool with the storage of these batches given back, before any comparison. -/
def State.given (s : State) (gone : List Batch) : State :=
  s.modPool fun p => gone.foldl (fun acc b => acc.give b.queue.acct b.cells 1) p

section
variable (s : State) (gone : List Batch)

theorem releaseBatches_eq :
    s.releaseBatches gone = if (gone.map Batch.cells).sum = 0 then s.given gone else (s.given gone).monitor := rfl

theorem given_freeCells : (s.given gone).pool.freeCells = s.pool.freeCells + (gone.map Batch.cells).sum := by
  obtain ⟨cells, -⟩ := foldl_give gone s.pool _ rfl
  exact cells
theorem given_lowWater : (s.given gone).pool.lowWater = s.pool.lowWater := by
  obtain ⟨-, -, lowWater, -⟩ := foldl_give gone s.pool _ rfl
  exact lowWater
theorem given_low : (s.given gone).pool.low = s.pool.low := by
  obtain ⟨-, -, -, low, -⟩ := foldl_give gone s.pool _ rfl
  exact low

/-- R60: the account of a queue is no other queue's, and not RET. -/
theorem acct_beq (q j : QueueId) : (q.acct == j.acct) = (q == j) := by
  revert q j
  decide

theorem releaseBatches_account (q : QueueId) : (s.releaseBatches gone).account q.acct = { s.account q.acct with
    inUse := (s.account q.acct).inUse - ((gone.filter fun b => b.queue == q).map Batch.cells).sum } := by
  obtain ⟨-, -, -, accounts⟩ := releaseBatches_spec s gone
  rw [accounts]
  simp only [acct_beq]
theorem releaseBatches_retAccount : (s.releaseBatches gone).account retAcct = s.account retAcct := by
  have none : (gone.filter fun b => b.queue.acct == retAcct) = [] := by
    simp [List.filter_eq_nil_iff, acct_ne_retAcct]
  obtain ⟨-, -, -, accounts⟩ := releaseBatches_spec s gone
  rw [accounts, none]
  rfl
end

/-- The first clause about releases in O35: what is given back, and the comparison by its outcomes. -/
theorem releaseBatches_outcome (s : State) (gone : List Batch) {n : Nat} (cells : n = (gone.map Batch.cells).sum) :
    (n ≠ 0 → s.pool.low = true → s.pool.lowWater + 64 ≤ s.pool.freeCells + n → s.releaseBatches gone =
      ((s.given gone).modPool fun p => { p with low := false }).raise .cellPool
        [raiseOf .poolRecovered 0 (s.pool.freeCells + n)]) ∧
    (n ≠ 0 → s.pool.low = false → s.pool.freeCells + n < s.pool.lowWater → s.releaseBatches gone =
      ((s.given gone).modPool fun p => { p with low := true }).raise .cellPool
        [raiseOf .poolLow 0 (s.pool.freeCells + n)]) ∧
    (n = 0 ∨ (s.pool.low = true ∧ s.pool.freeCells + n < s.pool.lowWater + 64) ∨
        (s.pool.low = false ∧ s.pool.lowWater ≤ s.pool.freeCells + n) → s.releaseBatches gone = s.given gone) := by
  subst cells
  rw [releaseBatches_eq, ← given_freeCells, ← given_lowWater s gone, ← given_low s gone]
  refine ⟨fun some low above => ?_, fun some notLow below => ?_, fun band => ?_⟩
  · rw [if_neg some, monitor_recovers low above]
  · rw [if_neg some, monitor_falls notLow below]
  · split
    · rfl
    · exact monitor_within (band.resolve_left (by assumption))

/-! ### What each block's restart leaves -/

/-- R40: the cells that the return lists hold. -/
def State.returnsHeld (s : State) : Nat := (s.edge.returns.list.map fun l => (l.map returnCells).sum).sum

section
variable (s : State)

theorem linkLayer_restarts (p : Port) : s.blockRestarts (.linkLayer p) = { s with
    links := s.links.upd p Link.restarted
    mgmt := { s.mgmt with
      mode := if s.mgmt.mode = .restartWait ∧ (s.link p).control.any ControlFrame.restart then .restartDue else s.mgmt.mode } } := by
  simp only [State.blockRestarts, State.linkLayerRestarts]
  split <;> rfl

theorem edgeUnit_restarts : s.blockRestarts .edgeUnit = { s with
    edge := s.edge.restarted
    links := s.links.map fun l => l.aborted fun o => o == .returnFrame
    pool := (s.release retAcct s.returnsHeld 0).pool
    events := (s.release retAcct s.returnsHeld 0).events } := by
  obtain ⟨pool, events⟩ := release_congr (t := s) (s := ({ s with
    edge := s.edge.restarted
    links := s.links.map fun l => l.aborted fun o => o == .returnFrame } : State)) rfl rfl retAcct s.returnsHeld 0
  apply State.eq_of_fields
  case pool_eq => exact pool
  case events_eq => exact events
  all_goals simp [State.blockRestarts, State.edgeUnitRestarts]

theorem queueUnit_restarts : s.blockRestarts .queueUnit = { s with
    queues := s.queues.map Queue.restarted
    trunks := s.trunks.map fun k => ({ k with bundles := [] } : Trunk).emptied
    links := s.links.map fun l => l.aborted WireOwner.isBundle
    pool := (s.releaseBatches s.storedBatches).pool
    events := (s.releaseBatches s.storedBatches).events } := by
  obtain ⟨pool, events⟩ := releaseBatches_congr (t := s) (s := ({ s with
    queues := s.queues.map Queue.restarted
    trunks := s.trunks.map fun k => { k with bundles := [] }
    links := s.links.map fun l => l.aborted WireOwner.isBundle } : State)) rfl rfl s.storedBatches
  simp only [State.blockRestarts, State.queueUnitRestarts]
  rw [foldl_windowEmptied]
  apply State.eq_of_fields
  case pool_eq => exact pool
  case events_eq => exact events
  case trunks_eq =>
    refine Tab.ext_get fun t => ?_
    refine (foldl_windowEmptied_trunk t _ _).trans ?_
    simp [State.trunk]
  all_goals simp

theorem trunkUnit_restarts (t : TrunkId) : s.blockRestarts (.trunkUnit t) = { s with
    queues := (s.trunkUnitRestarts t).queues
    trunks := s.trunks.upd t fun k => k.restarted (s.link t.port).up
    links := s.links.upd t.port fun l => l.aborted WireOwner.isBundle
    pool := (s.releaseBatches ((s.trunk t).bundles.map Bundle.batch)).pool
    events := (s.releaseBatches ((s.trunk t).bundles.map Bundle.batch)).events } := by
  obtain ⟨pool, events⟩ := releaseBatches_congr (t := s) (s := ({ s with
    queues := s.fewerOutstanding t
    trunks := s.trunks.upd t fun k => k.restarted (s.link t.port).up
    links := s.links.upd t.port fun l => l.aborted WireOwner.isBundle } : State)) rfl rfl
    ((s.trunk t).bundles.map Bundle.batch)
  apply State.eq_of_fields
  case queues_eq => rfl
  case pool_eq => exact pool
  case events_eq => exact events
  all_goals simp [State.blockRestarts, State.trunkUnitRestarts]

/-- R86, R135: a trunk unit's restart takes its bundles off the outstanding counts, and turns off queues that were HALTING. -/
theorem trunkUnitRestarts_queue (t : TrunkId) (q : QueueId) : ∃ u : Queue,
    u = { s.queue q with outstanding := (s.queue q).outstanding - ((s.trunk t).bundlesOf q).length } ∧
    ((s.trunkUnitRestarts t).queue q = u ∨
      ((s.queue q).state = .halting ∧ (s.trunkUnitRestarts t).queue q = u.turnedOff)) := by
  refine ⟨_, rfl, ?_⟩
  rw [State.trunkUnitRestarts, drainedOff_queue]
  split
  · rename_i drained
    refine .inr ⟨?_, ?_⟩
    · simp only [State.drained, releaseBatches_queue, Bool.and_eq_true, beq_iff_eq] at drained
      obtain ⟨⟨⟨halting, -⟩, -⟩, -⟩ := drained
      simpa [State.queue, State.fewerOutstanding] using halting
    · simp [State.queue, State.fewerOutstanding]
  · refine .inl ?_
    simp [State.queue, State.fewerOutstanding]

/-- R116: the trunk state that a restart sets. -/
theorem restartedMode_eq (enabled up : Bool) : restartedMode enabled up =
    if enabled = false then .disabled else if up then .running else .waiting := by
  cases enabled <;> rfl
end

/-! ### RESTART_BEGIN -/

theorem exec_restartBegin {s : State} (high : s.resetLow = false) : exec .restartBegin s = .next s.restarts :=
  live_of_high high _

section
variable {s : State}

/-- R152, R154: the restart that goes on, with the blocks that have still to take it. -/
def State.restarting (s : State) : State :=
  { s with events := { s.events with
    orders := s.events.orders.tail
    awaiting := if s.events.awaiting = [] then RestartBlock.all else s.events.awaiting } }

theorem restarts_none (notDue : s.mgmt.mode ≠ .restartDue) (noneInProgress : s.events.awaiting = []) : s.restarts = s := by
  have notStarted : s.restartStarts = s := if_neg fun both => notDue both.1
  rw [State.restarts]
  dsimp only
  rw [notStarted, if_pos noneInProgress]

theorem restarts_of_due (due : s.mgmt.mode = .restartDue ∨ s.events.awaiting ≠ []) {v : State}
    (taken : v = (List.finRange 12).foldl (State.selectAborted s) (s.events.nextOrder.foldl State.restartBlock s.restarting)) :
    s.restarts = if v.events.awaiting = [] then v.takeRaise (raiseOf .restarted 0 0) else v := by
  have started : s.restartStarts.events.awaiting ≠ [] ∧
      (s.restartStarts.modEvents fun e => { e with orders := e.orders.tail }) = s.restarting := by
    by_cases none : s.events.awaiting = []
    · have mode := due.resolve_right (not_not.2 none)
      rw [State.restartStarts, if_pos ⟨mode, none⟩, State.restarting, if_pos none]
      exact ⟨by simp [RestartBlock.all], rfl⟩
    · rw [State.restartStarts, if_neg fun both => none both.2, State.restarting, if_neg none]
      exact ⟨none, rfl⟩
  obtain ⟨inProgress, begun⟩ := started
  subst taken
  rw [State.restarts]
  dsimp only
  rw [if_neg inProgress, begun]

theorem selectAborted_of_aborted {t : State} {p : Port} (was : (s.link p).wire ≠ none) (now : (t.link p).wire = none) :
    s.selectAborted t p = t.select p := by
  simp [State.selectAborted, Option.isSome_iff_ne_none, was, now]
theorem selectAborted_of_not_aborted {t : State} {p : Port} (h : (s.link p).wire = none ∨ (t.link p).wire ≠ none) :
    s.selectAborted t p = t := by
  rcases h with idle | sending
  · simp [State.selectAborted, idle]
  · simp [State.selectAborted, sending]
end

end Sys2Proof.Machine
end


section
/-! SUPPORT. The restart, part by part: which block's restart changes which part of the state; that restarting a part once
more changes nothing; and what the blocks give back to the pool (R40, R57, R62, R94, R116, R135, R154, R165, R181). -/

namespace Sys2Proof.Tab
variable {α β : Type} {n : Nat}

theorem list_eq_map_get (t : Tab α n) : t.list = (List.finRange n).map t.get := by
  obtain ⟨list, rfl⟩ := t
  exact List.ext_getElem (by simp) fun i _ _ => by simp [get]

theorem flatMap_list (t : Tab α n) (f : α → List β) : t.list.flatMap f = (List.finRange n).flatMap fun i => f (t.get i) := by
  rw [list_eq_map_get, List.flatMap_map]

/-- What one place holds leaves a table that holds nothing there any more. -/
theorem flatMap_set_perm (t : Tab α n) (i : Fin n) {x : α} {f : α → List β} (empty : f x = []) :
    (t.list.flatMap f).Perm (f (t.get i) ++ (t.set i x).list.flatMap f) := by
  have bound : i.val < t.list.length := by rw [t.len]; exact i.isLt
  have before : (t.list.flatMap f).Perm (f (t.get i) ++ (t.list.eraseIdx i).flatMap f) :=
    (List.getElem_cons_eraseIdx_perm bound).symm.flatMap_right f
  have bound' : i.val < (t.list.set i x).length := by rw [List.length_set]; exact bound
  have after : ((t.set i x).list.flatMap f).Perm ((t.list.eraseIdx i).flatMap f) := by
    have others := (List.getElem_cons_eraseIdx_perm bound').symm.flatMap_right f
    rwa [List.getElem_set_self, List.eraseIdx_set_eq, List.flatMap_cons, empty, List.nil_append] at others
  exact before.trans (after.symm.append_left _)

end Sys2Proof.Tab

namespace Sys2Proof.Machine

/-! ### Restarting a part twice -/

theorem Edge.restarted_restarted (e : Edge) : e.restarted.restarted = e.restarted := by
  have directory : (e.restarted.removeEntries fun d => d.origin == .learned).directory = e.restarted.directory := by
    refine Tab.ext_get fun i => ?_
    simp only [removeEntries_directory, Edge.restarted, Tab.get_map]
    cases e.directory.get i with
    | none => rfl
    | some d => cases learned : d.origin == .learned <;> simp [Option.filter, learned]
  simpa [Edge.restarted, Edge.removeEntries, Edge.setDirectory] using directory

theorem Steer.restarted_restarted (x : Steer) : x.restarted.restarted = x.restarted := by
  have shadow : Tab.ofFn x.restarted.syncedEntry = x.restarted.shadowBank := by
    refine Tab.ext_get fun i => ?_
    rw [Tab.get_ofFn]
    exact if_neg (by simp [Steer.restarted])
  have same : x.restarted.setShadow x.restarted.shadowBank = x.restarted := by
    cases x with | mk _ _ _ _ active _ _ _ _ _ _ => cases active <;> rfl
  conv_lhs => rw [Steer.restarted, shadow, same]
  simp [Steer.restarted]

theorem Queue.restarted_restarted (u : Queue) : u.restarted.restarted = u.restarted := by
  cases mode : u.state <;> simp [Queue.restarted, mode]

theorem Queue.restarted_congr {u v : Queue} (state : v.state = .active ↔ u.state = .active)
    (rest : v = { u with state := v.state, openBatch := v.openBatch, ready := v.ready, outstanding := v.outstanding,
                         drain := v.drain }) : v.restarted = u.restarted := by
  rw [Queue.restarted, Queue.restarted, rest]
  simp only [state]

theorem Slot.restarted_restarted (x : Slot) : x.restarted.restarted = x.restarted := rfl

/-! ### Which block changes which part -/

section
variable (s : State) (b : RestartBlock)

theorem blockRestarts_edge : (s.blockRestarts b).edge = if b = .edgeUnit then s.edge.restarted else s.edge := by
  cases b with
  | edgeUnit => rw [edgeUnit_restarts]; rfl
  | linkLayer p => rw [linkLayer_restarts]; rfl
  | queueUnit => rw [queueUnit_restarts]; rfl
  | trunkUnit t => rw [trunkUnit_restarts]; rfl
  | steeringUnit | cellPool | managementUnit | eventUnit | counterBlock => rfl

theorem blockRestarts_steer : (s.blockRestarts b).steer = if b = .steeringUnit then s.steer.restarted else s.steer := by
  cases b with
  | edgeUnit => rw [edgeUnit_restarts]; rfl
  | linkLayer p => rw [linkLayer_restarts]; rfl
  | queueUnit => rw [queueUnit_restarts]; rfl
  | trunkUnit t => rw [trunkUnit_restarts]; rfl
  | steeringUnit | cellPool | managementUnit | eventUnit | counterBlock => rfl

theorem blockRestarts_counters :
    (s.blockRestarts b).counters = if b = .counterBlock then Counters.reset else s.counters := by
  cases b with
  | edgeUnit => rw [edgeUnit_restarts]; rfl
  | linkLayer p => rw [linkLayer_restarts]; rfl
  | queueUnit => rw [queueUnit_restarts]; rfl
  | trunkUnit t => rw [trunkUnit_restarts]; rfl
  | steeringUnit | cellPool | managementUnit | eventUnit | counterBlock => rfl

/-- R153: a link layer makes a RESTART due again only while the response of one is placed. -/
theorem blockRestarts_mgmt : (s.blockRestarts b).mgmt =
    if b = .managementUnit then s.mgmt.restarted else { s.mgmt with mode := (s.blockRestarts b).mgmt.mode } := by
  cases b with
  | edgeUnit => rw [edgeUnit_restarts]; rfl
  | linkLayer p => rw [linkLayer_restarts]; rfl
  | queueUnit => rw [queueUnit_restarts]; rfl
  | trunkUnit t => rw [trunkUnit_restarts]; rfl
  | steeringUnit | cellPool | managementUnit | eventUnit | counterBlock => rfl
theorem blockRestarts_mode_ready (ready : s.mgmt.mode = .ready) : (s.blockRestarts b).mgmt.mode = .ready := by
  cases b with
  | edgeUnit => rw [edgeUnit_restarts]; exact ready
  | linkLayer p => rw [linkLayer_restarts]; simp [ready]
  | queueUnit => rw [queueUnit_restarts]; exact ready
  | trunkUnit t => rw [trunkUnit_restarts]; exact ready
  | managementUnit => rfl
  | steeringUnit | cellPool | eventUnit | counterBlock => exact ready

/-- R181: raises that wait go on waiting, and only the pool adds to them. -/
theorem blockRestarts_events : (s.blockRestarts b).events =
    { (if b = .eventUnit then s.events.restarted else s.events) with raised := (s.blockRestarts b).events.raised } := by
  cases b with
  | edgeUnit => rw [edgeUnit_restarts]; exact release_events s _ _ _
  | linkLayer p => rw [linkLayer_restarts]; rfl
  | queueUnit => rw [queueUnit_restarts]; exact releaseBatches_events s _
  | trunkUnit t => rw [trunkUnit_restarts]; exact releaseBatches_events s _
  | steeringUnit | cellPool | managementUnit | eventUnit | counterBlock => rfl
theorem blockRestarts_raised :
    ∃ pool, (∀ a ∈ pool, a.block = .cellPool) ∧ (s.blockRestarts b).events.raised = s.events.raised ++ pool := by
  have unchanged : ∃ pool : List Arrival, (∀ a ∈ pool, a.block = .cellPool) ∧ s.events.raised = s.events.raised ++ pool :=
    ⟨[], by simp, by simp⟩
  cases b with
  | edgeUnit =>
    obtain ⟨pool, raised, block⟩ := release_raised s retAcct s.returnsHeld 0
    rw [edgeUnit_restarts]
    exact ⟨pool, block, raised⟩
  | queueUnit =>
    obtain ⟨pool, raised, block⟩ := releaseBatches_raised s s.storedBatches
    rw [queueUnit_restarts]
    exact ⟨pool, block, raised⟩
  | trunkUnit t =>
    obtain ⟨pool, raised, block⟩ := releaseBatches_raised s ((s.trunk t).bundles.map Bundle.batch)
    rw [trunkUnit_restarts]
    exact ⟨pool, block, raised⟩
  | linkLayer p => rw [linkLayer_restarts]; exact unchanged
  | steeringUnit | cellPool | managementUnit | eventUnit | counterBlock => exact unchanged

/-- R8, R15, R40, R114, R135: the transmissions that the restart of a block aborts at port `p`, by their owner. -/
def RestartBlock.aborts (b : RestartBlock) (p : Port) : WireOwner → Bool :=
  match b with
  | .linkLayer q => fun o => p == q && o == .control
  | .edgeUnit => fun o => o == .returnFrame
  | .queueUnit => WireOwner.isBundle
  | .trunkUnit t => fun o => p == t.port && o.isBundle
  | .steeringUnit | .cellPool | .managementUnit | .eventUnit | .counterBlock => fun _ => false

theorem Link.aborted_none (l : Link) : (l.aborted fun _ => false) = l := by
  cases l with | mk _ _ wire _ => cases wire <;> rfl

theorem blockRestarts_link (p : Port) : (s.blockRestarts b).link p =
    (if b = .linkLayer p then { s.link p with txCount := 0, control := [] } else s.link p).aborted (RestartBlock.aborts b p) := by
  have kept : ∀ l : Link, l = l.aborted fun _ => false := fun l => (Link.aborted_none l).symm
  cases b with
  | linkLayer q =>
    rw [linkLayer_restarts]
    by_cases here : p = q
    · subst here
      simp [State.link, Link.restarted, Link.aborted, RestartBlock.aborts]
    · have elsewhere : RestartBlock.linkLayer q ≠ .linkLayer p := fun e => here (RestartBlock.linkLayer.inj e).symm
      simp [State.link, here, elsewhere, RestartBlock.aborts, beq_eq_false_iff_ne.2 here, Link.aborted_none]
  | edgeUnit => rw [edgeUnit_restarts]; simp [State.link, RestartBlock.aborts]
  | queueUnit => rw [queueUnit_restarts]; simp [State.link, RestartBlock.aborts]
  | trunkUnit t =>
    rw [trunkUnit_restarts]
    by_cases here : p = t.port
    · subst here
      simp [State.link, RestartBlock.aborts]
    · simp [State.link, here, RestartBlock.aborts, beq_eq_false_iff_ne.2 here, Link.aborted_none]
  | steeringUnit | cellPool | managementUnit | eventUnit | counterBlock => exact kept _

/-- R94, R135: what becomes of a queue. -/
theorem blockRestarts_queue (q : QueueId) : (s.blockRestarts b).queue q = s.queue q ∨
    (s.blockRestarts b).queue q = (s.queue q).restarted ∨
    (b ≠ .queueUnit ∧ ∃ (u : Queue) (n : Nat), u = { s.queue q with outstanding := (s.queue q).outstanding - n } ∧
      ((s.blockRestarts b).queue q = u ∨ ((s.queue q).state = .halting ∧ (s.blockRestarts b).queue q = u.turnedOff))) := by
  cases b with
  | trunkUnit t =>
    obtain ⟨u, fewer, outcome⟩ := trunkUnitRestarts_queue s t q
    exact .inr (.inr ⟨nofun, u, _, fewer, outcome⟩)
  | queueUnit => rw [queueUnit_restarts]; exact .inr (.inl (by simp [State.queue]))
  | edgeUnit => rw [edgeUnit_restarts]; exact .inl rfl
  | linkLayer p => rw [linkLayer_restarts]; exact .inl rfl
  | steeringUnit | cellPool | managementUnit | eventUnit | counterBlock => exact .inl rfl
theorem queueUnit_restarts_queue (q : QueueId) : (s.blockRestarts .queueUnit).queue q = (s.queue q).restarted := by
  rw [queueUnit_restarts]
  simp [State.queue]

/-- R94, R99, R116: what becomes of a trunk unit. -/
theorem blockRestarts_trunk (t : TrunkId) : (s.blockRestarts b).trunk t =
    if b = .trunkUnit t then (s.trunk t).restarted (s.link t.port).up
    else if b = .queueUnit then ({ s.trunk t with bundles := [] } : Trunk).emptied
    else s.trunk t := by
  cases b with
  | trunkUnit j =>
    rw [trunkUnit_restarts]
    by_cases here : t = j
    · subst here
      simp [State.trunk]
    · have elsewhere : RestartBlock.trunkUnit j ≠ .trunkUnit t := fun e => here (RestartBlock.trunkUnit.inj e).symm
      simp [State.trunk, here, elsewhere]
  | queueUnit => rw [queueUnit_restarts]; simp [State.trunk]
  | edgeUnit => rw [edgeUnit_restarts]; rfl
  | linkLayer p => rw [linkLayer_restarts]; rfl
  | steeringUnit | cellPool | managementUnit | eventUnit | counterBlock => rfl
end

theorem emptied_bundles (k : Trunk) : k.emptied.bundles = k.bundles := by
  unfold Trunk.emptied
  split
  · split <;> rfl
  · rfl

theorem restarted_emptied (k : Trunk) (up : Bool) :
    ({ k with bundles := [] } : Trunk).emptied.restarted up = k.restarted up := by
  unfold Trunk.emptied
  split <;> [split <;> rfl; rfl]

theorem emptied_restarted (k : Trunk) (up : Bool) :
    ({ k.restarted up with bundles := [] } : Trunk).emptied = k.restarted up := by
  cases enabled : k.enabled <;> cases up <;> simp [Trunk.emptied, Trunk.restarted, restartedMode, enabled]

theorem restarted_up (s : State) (b : RestartBlock) (p : Port) : ((s.blockRestarts b).link p).up = (s.link p).up := by
  rw [blockRestarts_link, Link.aborted_up]
  split <;> rfl

end Sys2Proof.Machine
end


section
/-! SUPPORT. The restart as a whole: what every block's restart keeps, that a block's part stays restarted whichever blocks
come after, and that what the blocks held is all given back (R58, R60, R62, R66, R69, R72, R154). -/

namespace Sys2Proof.Machine

/-! ### What a block gives back -/

/-- From `s` to `u` the storage of `gone` and `ret` cells of return frames go back to the pool. -/
structure Releases (s u : State) (gone : List Batch) (ret : Nat) : Prop where
  freeCells : u.pool.freeCells = s.pool.freeCells + ((gone.map Batch.cells).sum + ret)
  freeDescriptors : u.pool.freeDescriptors = s.pool.freeDescriptors + gone.length
  lowWater : u.pool.lowWater = s.pool.lowWater
  account : ∀ q : QueueId, u.account q.acct = { s.account q.acct with
    inUse := (s.account q.acct).inUse - ((gone.filter fun b => b.queue == q).map Batch.cells).sum }
  retAccount : u.account retAcct = { s.account retAcct with inUse := (s.account retAcct).inUse - ret }
  low : u.pool.low = true → u.pool.freeCells < u.pool.lowWater + 64 ∨
    (s.pool.low = true ∧ u.pool.freeCells = s.pool.freeCells)
  stored : s.storedBatches.Perm (gone ++ u.storedBatches)
  returns : s.returnsHeld = ret + u.returnsHeld

theorem monitor_low_below (s : State) (low : s.monitor.pool.low = true) : s.pool.freeCells < s.pool.lowWater + 64 := by
  rw [monitor_low] at low
  split at low
  · exact of_decide_eq_true low
  · have := of_decide_eq_true low
    omega

theorem releaseBatches_low (s : State) (gone : List Batch) (low : (s.releaseBatches gone).pool.low = true) :
    (s.releaseBatches gone).pool.freeCells < (s.releaseBatches gone).pool.lowWater + 64 ∨
      (s.pool.low = true ∧ (s.releaseBatches gone).pool.freeCells = s.pool.freeCells) := by
  rw [releaseBatches_eq] at low ⊢
  split at low
  · rename_i noCell
    rw [if_pos noCell, given_freeCells, noCell]
    exact .inr ⟨by rwa [given_low] at low, rfl⟩
  · rename_i cells
    rw [if_neg cells, monitor_freeCells, monitor_lowWater]
    exact .inl (monitor_low_below _ low)

theorem release_low (s : State) (a : AcctId) (n d : Nat) (low : (s.release a n d).pool.low = true) :
    (s.release a n d).pool.freeCells < (s.release a n d).pool.lowWater + 64 ∨
      (s.pool.low = true ∧ (s.release a n d).pool.freeCells = s.pool.freeCells) := by
  unfold State.release at low ⊢
  split at low
  · rename_i noCell
    rw [if_pos noCell]
    exact .inr ⟨low, by simp [Pool.give, noCell]⟩
  · rename_i cells
    rw [if_neg cells, monitor_freeCells, monitor_lowWater]
    exact .inl (monitor_low_below _ low)

theorem Releases.of_releaseBatches {s u : State} {gone : List Batch} (pool : u.pool = (s.releaseBatches gone).pool)
    (stored : s.storedBatches.Perm (gone ++ u.storedBatches)) (returns : u.edge.returns = s.edge.returns) :
    Releases s u gone 0 := by
  obtain ⟨cells, descriptors, lowWater, -⟩ := releaseBatches_spec s gone
  have account : ∀ a, u.account a = (s.releaseBatches gone).account a := fun a => by rw [State.account, pool]; rfl
  exact {
    freeCells := by rw [pool, cells, Nat.add_zero]
    freeDescriptors := by rw [pool, descriptors]
    lowWater := by rw [pool, lowWater]
    account := fun q => by rw [account, releaseBatches_account]
    retAccount := by rw [account, releaseBatches_retAccount, Nat.sub_zero]
    low := by rw [pool]; exact releaseBatches_low s gone
    stored := stored
    returns := by rw [State.returnsHeld, State.returnsHeld, returns, Nat.zero_add] }

/-- A block that leaves queues, windows and return lists alone gives nothing back. -/
theorem Releases.nothing {s u : State} (pool : u.pool = { s.pool with low := u.pool.low })
    (low : u.pool.low = true → s.pool.low = true ∨ u.pool.freeCells < u.pool.lowWater + 64) (queues : u.queues = s.queues)
    (trunks : u.trunks = s.trunks) (returns : u.edge.returns = s.edge.returns) : Releases s u [] 0 := by
  have cells : u.pool.freeCells = s.pool.freeCells := by rw [pool]
  have account : ∀ a, u.account a = s.account a := fun a => by rw [State.account, pool]; rfl
  exact {
    freeCells := by rw [cells]; rfl
    freeDescriptors := by rw [pool]; rfl
    lowWater := by rw [pool]
    account := fun q => by rw [account]; rfl
    retAccount := by rw [account]; rfl
    low := fun isLow => (low isLow).elim (fun was => .inr ⟨was, cells⟩) .inl
    stored := by rw [State.storedBatches, State.storedBatches, queues, trunks]; rfl
    returns := by rw [State.returnsHeld, State.returnsHeld, returns, Nat.zero_add] }

theorem storedBatches_nil {s : State} (queues : ∀ q, (s.queue q).openBatch = none ∧ (s.queue q).ready = [])
    (trunks : ∀ t, (s.trunk t).bundles = []) : s.storedBatches = [] := by
  refine List.append_eq_nil_iff.2 ⟨List.flatMap_eq_nil_iff.2 fun x hx => ?_, List.flatMap_eq_nil_iff.2 fun k hk => ?_⟩
  · obtain ⟨q, rfl⟩ := Tab.mem_list.1 hx
    obtain ⟨noOpen, noReady⟩ := queues q
    simp only [State.queue] at noOpen noReady
    simp [Queue.held, noOpen, noReady]
  · obtain ⟨t, rfl⟩ := Tab.mem_list.1 hk
    have empty := trunks t
    simp only [State.trunk] at empty
    simp [empty]

theorem returnsHeld_zero {s : State} (returns : ∀ k, s.edge.returns.get k = []) : s.returnsHeld = 0 := by
  refine List.sum_eq_zero fun n hn => ?_
  obtain ⟨l, hl, rfl⟩ := List.mem_map.1 hn
  obtain ⟨k, rfl⟩ := Tab.mem_list.1 hl
  simp [returns k]

/-- R40: a restarted edge unit holds no return frame. -/
theorem restarted_returns (e : Edge) (k : EdgeId) : e.restarted.returns.get k = [] := by simp [Edge.restarted]

theorem edgeUnit_releases (s : State) : Releases s (s.blockRestarts .edgeUnit) [] s.returnsHeld := by
  have pool : (s.blockRestarts .edgeUnit).pool = (s.release retAcct s.returnsHeld 0).pool := by rw [edgeUnit_restarts]
  have account : ∀ a, (s.blockRestarts .edgeUnit).account a = (s.release retAcct s.returnsHeld 0).account a := fun a => by
    rw [State.account, pool]
    rfl
  exact {
    freeCells := by rw [pool, release_freeCells]; simp
    freeDescriptors := by rw [pool, release_freeDescriptors]; rfl
    lowWater := by rw [pool, release_lowWater]
    account := fun q => by rw [account, release_account_ne _ _ _ (acct_ne_retAcct q)]; rfl
    retAccount := by rw [account, release_account_self]
    low := by rw [pool]; exact release_low s _ _ _
    stored := by rw [edgeUnit_restarts]; rfl
    returns := by
      have none : (s.blockRestarts .edgeUnit).returnsHeld = 0 :=
        returnsHeld_zero fun k => by rw [blockRestarts_edge, if_pos rfl, restarted_returns]
      rw [none, Nat.add_zero] }

theorem queueUnit_releases (s : State) : Releases s (s.blockRestarts .queueUnit) s.storedBatches 0 := by
  refine .of_releaseBatches (by rw [queueUnit_restarts]) ?_ (by rw [blockRestarts_edge, if_neg nofun])
  have none : (s.blockRestarts .queueUnit).storedBatches = [] := by
    refine storedBatches_nil (fun q => ?_) fun t => ?_
    · rw [queueUnit_restarts_queue]
      exact ⟨rfl, rfl⟩
    · rw [blockRestarts_trunk, if_neg nofun, if_pos rfl, emptied_bundles]
  rw [none, List.append_nil]

/-- R135: the batches of one window leave; what the queues hold stays. -/
theorem trunkUnit_releases (s : State) (t : TrunkId) :
    Releases s (s.blockRestarts (.trunkUnit t)) ((s.trunk t).bundles.map Bundle.batch) 0 := by
  refine .of_releaseBatches (by rw [trunkUnit_restarts]) ?_ (by rw [blockRestarts_edge, if_neg nofun])
  have each : ∀ q, ((s.trunkUnitRestarts t).queues.get q).held = (s.queues.get q).held := by
    intro q
    obtain ⟨u, rfl, kept | ⟨-, off⟩⟩ := trunkUnitRestarts_queue s t q
    · exact (congrArg Queue.held kept).trans rfl
    · exact (congrArg Queue.held off).trans rfl
  have held : (s.blockRestarts (.trunkUnit t)).queues.list.flatMap Queue.held = s.queues.list.flatMap Queue.held := by
    rw [trunkUnit_restarts, Tab.flatMap_list, Tab.flatMap_list]
    simp only [each]
  have window : (s.trunks.list.flatMap fun k => k.bundles.map Bundle.batch).Perm ((s.trunk t).bundles.map Bundle.batch ++
      (s.blockRestarts (.trunkUnit t)).trunks.list.flatMap fun k => k.bundles.map Bundle.batch) := by
    rw [trunkUnit_restarts]
    exact s.trunks.flatMap_set_perm t rfl
  rw [State.storedBatches, State.storedBatches, held]
  exact (window.append_left _).trans (List.perm_append_comm_assoc _ _ _)

theorem blockRestarts_releases (s : State) (b : RestartBlock) : ∃ gone ret, Releases s (s.blockRestarts b) gone ret := by
  cases b with
  | edgeUnit => exact ⟨_, _, edgeUnit_releases s⟩
  | queueUnit => exact ⟨_, _, queueUnit_releases s⟩
  | trunkUnit t => exact ⟨_, _, trunkUnit_releases s t⟩
  | linkLayer p => rw [linkLayer_restarts]; exact ⟨_, _, .nothing rfl .inl rfl rfl rfl⟩
  | cellPool =>
    refine ⟨_, _, .nothing rfl (fun low => .inr ?_) rfl rfl rfl⟩
    have below : s.pool.freeCells < s.pool.lowWater := of_decide_eq_true low
    exact Nat.lt_add_right 64 below
  | steeringUnit | managementUnit | eventUnit | counterBlock => exact ⟨_, _, .nothing rfl .inl rfl rfl rfl⟩

/-! ### What every block keeps -/

/-- What the blocks of a restart keep from `s` to `u`: what the restart will have made of each part, and what the pool and its
holders have together. -/
structure RestartKeeps (s u : State) : Prop where
  up : ∀ p, (u.link p).up = (s.link p).up
  edge : u.edge.restarted = s.edge.restarted
  steer : u.steer.restarted = s.steer.restarted
  mgmt : u.mgmt.restarted = s.mgmt.restarted
  slot : ∀ i, (u.slot i).restarted = (s.slot i).restarted
  queue : ∀ q, (u.queue q).restarted = (s.queue q).restarted
  trunk : ∀ t up, (u.trunk t).restarted up = (s.trunk t).restarted up
  raised : ∃ pool, (∀ a ∈ pool, a.block = .cellPool) ∧ u.events.raised = s.events.raised ++ pool
  lowWater : u.pool.lowWater = s.pool.lowWater
  account : ∀ a, u.account a = { s.account a with inUse := (u.account a).inUse }
  cells : u.pool.freeCells + (u.storedBatches.map Batch.cells).sum + u.returnsHeld =
    s.pool.freeCells + (s.storedBatches.map Batch.cells).sum + s.returnsHeld
  descriptors : u.pool.freeDescriptors + u.storedBatches.length = s.pool.freeDescriptors + s.storedBatches.length

theorem acct_cases (a : AcctId) : a = retAcct ∨ ∃ q : QueueId, a = q.acct := by
  revert a
  decide

namespace RestartKeeps
variable {s u v : State}

/-- The progress of the restart says nothing of any part. -/
theorem progress (s : State) (awaiting : List RestartBlock) (orders : List (List RestartBlock)) :
    RestartKeeps s { s with events := { s.events with awaiting := awaiting, orders := orders } } where
  up _ := rfl
  edge := rfl
  steer := rfl
  mgmt := rfl
  slot _ := rfl
  queue _ := rfl
  trunk _ _ := rfl
  raised := ⟨[], by simp, by simp⟩
  lowWater := rfl
  account _ := rfl
  cells := rfl
  descriptors := rfl

theorem trans (h : RestartKeeps s u) (h' : RestartKeeps u v) : RestartKeeps s v where
  up p := (h'.up p).trans (h.up p)
  edge := h'.edge.trans h.edge
  steer := h'.steer.trans h.steer
  mgmt := h'.mgmt.trans h.mgmt
  slot i := (h'.slot i).trans (h.slot i)
  queue q := (h'.queue q).trans (h.queue q)
  trunk t up := (h'.trunk t up).trans (h.trunk t up)
  raised := by
    obtain ⟨first, cellPool, raised⟩ := h.raised
    obtain ⟨later, cellPool', raised'⟩ := h'.raised
    refine ⟨first ++ later, fun a ha => ?_, by rw [raised', raised, List.append_assoc]⟩
    exact (List.mem_append.1 ha).elim (cellPool a) (cellPool' a)
  lowWater := h'.lowWater.trans h.lowWater
  account a := by rw [h'.account, h.account]
  cells := h'.cells.trans h.cells
  descriptors := h'.descriptors.trans h.descriptors

theorem blockRestarts_slot (s : State) (b : RestartBlock) (i : SlotId) :
    ((s.blockRestarts b).slot i).restarted = (s.slot i).restarted := by
  rw [State.slot, blockRestarts_events]
  split
  · simp [EventUnit.restarted, Slot.restarted_restarted, State.slot]
  · rfl

theorem blockRestarts_queue (s : State) (b : RestartBlock) (q : QueueId) :
    ((s.blockRestarts b).queue q).restarted = (s.queue q).restarted := by
  rcases Machine.blockRestarts_queue s b q with same | restarted | ⟨-, u, n, rfl, fewer | ⟨halting, off⟩⟩
  · rw [same]
  · rw [restarted, Queue.restarted_restarted]
  · rw [fewer]
    rfl
  · rw [off]
    exact Queue.restarted_congr (by simp [Queue.turnedOff, halting]) rfl

theorem blockRestarts_trunk (s : State) (b : RestartBlock) (t : TrunkId) (up : Bool) :
    ((s.blockRestarts b).trunk t).restarted up = (s.trunk t).restarted up := by
  rw [Machine.blockRestarts_trunk]
  split <;> [rfl; split <;> [exact restarted_emptied _ up; rfl]]

/-- R154: every block keeps them. -/
theorem blockRestarts (s : State) (b : RestartBlock) : RestartKeeps s (s.blockRestarts b) := by
  obtain ⟨gone, ret, released⟩ := blockRestarts_releases s b
  have storedCells := (released.stored.map Batch.cells).sum_eq
  have storedLength := released.stored.length_eq
  have cells := released.freeCells
  have descriptors := released.freeDescriptors
  have returns := released.returns
  rw [List.map_append, List.sum_append] at storedCells
  rw [List.length_append] at storedLength
  exact {
    up := restarted_up s b
    edge := by rw [blockRestarts_edge]; split <;> [exact s.edge.restarted_restarted; rfl]
    steer := by rw [blockRestarts_steer]; split <;> [exact s.steer.restarted_restarted; rfl]
    mgmt := by rw [blockRestarts_mgmt]; split <;> rfl
    slot := blockRestarts_slot s b
    queue := blockRestarts_queue s b
    trunk := blockRestarts_trunk s b
    raised := blockRestarts_raised s b
    lowWater := released.lowWater
    account := fun a => by
      rcases acct_cases a with rfl | ⟨q, rfl⟩
      · rw [released.retAccount]
      · rw [released.account]
    cells := by omega
    descriptors := by omega }

end RestartKeeps

/-! ### What a block's restart leaves for good -/

/-- What stays so, once block `b` has taken the restart. -/
def RestartBlock.Done (b : RestartBlock) (u : State) : Prop :=
  match b with
  | .linkLayer p => (u.link p).control = [] ∧ (u.link p).txCount = 0 ∧ ∀ w ∈ (u.link p).wire, w.owner ≠ .control
  | .edgeUnit => u.edge = u.edge.restarted ∧ ∀ p, ∀ w ∈ (u.link p).wire, w.owner ≠ .returnFrame
  | .steeringUnit => u.steer = u.steer.restarted
  | .cellPool => True
  | .queueUnit => (∀ q, u.queue q = (u.queue q).restarted) ∧ ∀ p, ∀ w ∈ (u.link p).wire, w.owner.isBundle = false
  | .trunkUnit t => u.trunk t = (u.trunk t).restarted (u.link t.port).up
  | .managementUnit => u.mgmt = u.mgmt.restarted
  | .eventUnit => u.events = u.events.restarted
  | .counterBlock => u.counters = Counters.reset

/-- A restart starts no transmission: what is still on a wire was there before, and is not what the block aborts. -/
theorem wire_of_blockRestarts {s : State} {b : RestartBlock} {p : Port} {w : OnWire}
    (sending : w ∈ ((s.blockRestarts b).link p).wire) :
    w ∈ (s.link p).wire ∧ RestartBlock.aborts b p w.owner = false := by
  rw [blockRestarts_link] at sending
  obtain ⟨before, notAborted⟩ := Link.aborted_wire.1 sending
  refine ⟨?_, notAborted⟩
  split at before <;> exact before

/-- R15: a link layer's restart empties its control list, and no other block's restart touches it. -/
theorem blockRestarts_control (s : State) (b : RestartBlock) (p : Port) :
    ((s.blockRestarts b).link p).control = (if b = .linkLayer p then [] else (s.link p).control) ∧
      ((s.blockRestarts b).link p).txCount = if b = .linkLayer p then 0 else (s.link p).txCount := by
  rw [blockRestarts_link]
  split <;> exact ⟨rfl, rfl⟩

theorem done_blockRestarts (s : State) (b : RestartBlock) : RestartBlock.Done b (s.blockRestarts b) := by
  cases b with
  | linkLayer p =>
    obtain ⟨control, txCount⟩ := blockRestarts_control s (.linkLayer p) p
    rw [if_pos rfl] at control txCount
    refine ⟨control, txCount, fun w sending => ?_⟩
    obtain ⟨-, notAborted⟩ := wire_of_blockRestarts sending
    simpa [RestartBlock.aborts] using notAborted
  | edgeUnit =>
    refine ⟨?_, fun p w sending => ?_⟩
    · rw [blockRestarts_edge, if_pos rfl, Edge.restarted_restarted]
    · obtain ⟨-, notAborted⟩ := wire_of_blockRestarts sending
      simpa [RestartBlock.aborts] using notAborted
  | steeringUnit => exact (Steer.restarted_restarted s.steer).symm
  | cellPool => trivial
  | queueUnit =>
    refine ⟨fun q => ?_, fun p w sending => ?_⟩
    · rw [queueUnit_restarts_queue, Queue.restarted_restarted]
    · obtain ⟨-, notAborted⟩ := wire_of_blockRestarts sending
      exact notAborted
  | trunkUnit t =>
    rw [RestartBlock.Done, blockRestarts_trunk, if_pos rfl, restarted_up]
    rfl
  | managementUnit => rfl
  | eventUnit =>
    have slots : (s.events.slots.map Slot.restarted).map Slot.restarted = s.events.slots.map Slot.restarted :=
      Tab.ext_get fun i => by simp [Slot.restarted_restarted]
    simp only [RestartBlock.Done, State.blockRestarts, modEvents_events, EventUnit.restarted, slots]
  | counterBlock => rfl

/-- R135: a queue that holds nothing has nothing to lose at a trunk unit's restart. -/
theorem blockRestarts_restarted_queue {s : State} {q : QueueId} (b : RestartBlock)
    (restarted : s.queue q = (s.queue q).restarted) : (s.blockRestarts b).queue q = s.queue q := by
  have outstanding : (s.queue q).outstanding = 0 := by rw [restarted]; rfl
  rcases blockRestarts_queue s b q with same | again | ⟨-, u, n, rfl, fewer | ⟨halting, -⟩⟩
  · exact same
  · rw [again, ← restarted]
  · rw [fewer, outstanding, Nat.zero_sub, ← outstanding]
  · rw [restarted] at halting
    cases mode : (s.queue q).state <;> simp [Queue.restarted, mode] at halting

theorem done_kept {s : State} {b : RestartBlock} (c : RestartBlock) (h : RestartBlock.Done b s) :
    RestartBlock.Done b (s.blockRestarts c) := by
  cases b with
  | linkLayer p =>
    obtain ⟨noControl, zero, noSending⟩ := h
    obtain ⟨control, txCount⟩ := blockRestarts_control s c p
    refine ⟨by rw [control, noControl, ite_self], by rw [txCount, zero, ite_self], fun w sending => ?_⟩
    exact noSending w (wire_of_blockRestarts sending).1
  | edgeUnit =>
    obtain ⟨restarted, noSending⟩ := h
    refine ⟨?_, fun p w sending => noSending p w (wire_of_blockRestarts sending).1⟩
    rw [blockRestarts_edge, ← restarted, ite_self, ← restarted]
  | steeringUnit =>
    have restarted : s.steer = s.steer.restarted := h
    rw [RestartBlock.Done, blockRestarts_steer, ← restarted, ite_self, ← restarted]
  | cellPool => trivial
  | queueUnit =>
    obtain ⟨restarted, noSending⟩ := h
    refine ⟨fun q => ?_, fun p w sending => noSending p w (wire_of_blockRestarts sending).1⟩
    rw [blockRestarts_restarted_queue c (restarted q)]
    exact restarted q
  | trunkUnit t =>
    have restarted : s.trunk t = (s.trunk t).restarted (s.link t.port).up := h
    have emptied : ({ s.trunk t with bundles := [] } : Trunk).emptied = s.trunk t := by
      rw [restarted]
      exact emptied_restarted (s.trunk t) (s.link t.port).up
    rw [RestartBlock.Done, blockRestarts_trunk, restarted_up, ← restarted, emptied, ite_self, ite_self]
    exact restarted
  | managementUnit =>
    have restarted : s.mgmt = s.mgmt.restarted := h
    have ready : s.mgmt.mode = .ready := by rw [restarted]; rfl
    have same : (s.blockRestarts c).mgmt = s.mgmt := by
      rw [blockRestarts_mgmt, blockRestarts_mode_ready s c ready, ← restarted, ← ready, ite_self]
    rw [RestartBlock.Done, same]
    exact restarted
  | eventUnit =>
    have restarted : s.events = s.events.restarted := h
    have same : (s.blockRestarts c).events = { s.events with raised := (s.blockRestarts c).events.raised } := by
      rw [blockRestarts_events, ← restarted, ite_self]
    have raised : ∀ l, ({ s.events with raised := l } : EventUnit).restarted = { s.events.restarted with raised := l } :=
      fun _ => rfl
    rw [RestartBlock.Done, same, raised, ← restarted]
  | counterBlock =>
    have reset : s.counters = Counters.reset := h
    rw [RestartBlock.Done, blockRestarts_counters, reset, ite_self]

/-! ### The blocks of one RESTART_BEGIN -/

theorem done_progress {s : State} {b : RestartBlock} (awaiting : List RestartBlock) (h : RestartBlock.Done b s) :
    RestartBlock.Done b (s.modEvents fun e => { e with awaiting := awaiting }) := by
  cases b with
  | eventUnit =>
    have restarted : s.events = s.events.restarted := h
    exact congrArg (fun e : EventUnit => { e with awaiting := awaiting }) restarted
  | linkLayer | edgeUnit | steeringUnit | cellPool | queueUnit | trunkUnit | managementUnit | counterBlock => exact h

theorem done_restartBlock {s : State} {b : RestartBlock} (c : RestartBlock) (h : RestartBlock.Done b s) :
    RestartBlock.Done b (s.restartBlock c) := by
  unfold State.restartBlock
  split
  · exact done_kept c (done_progress _ h)
  · exact h

/-- Whatever the order, a block that still had to take the restart has taken it for good. -/
theorem done_foldl {b : RestartBlock} {order : List RestartBlock} (named : b ∈ order) :
    ∀ {s : State}, b ∈ s.events.awaiting → RestartBlock.Done b (order.foldl State.restartBlock s) := by
  induction order with
  | nil => exact absurd named List.not_mem_nil
  | cons c rest ih =>
    intro s awaits
    rw [List.foldl_cons]
    by_cases now : c = b
    · subst now
      have done : RestartBlock.Done c (s.restartBlock c) := by
        rw [restartBlock_of_mem awaits]
        exact done_blockRestarts _ c
      exact List.foldlRecOn (motive := fun u => RestartBlock.Done c u) rest _ done fun _ hu d _ => done_restartBlock d hu
    · have other : b ≠ c := fun e => now e.symm
      refine ih ((List.mem_cons.1 named).resolve_left other) ?_
      rw [restartBlock_awaiting]
      simp [awaits, other]

theorem keeps_foldl (s : State) (order : List RestartBlock) : RestartKeeps s (order.foldl State.restartBlock s) := by
  have same : RestartKeeps s s := .progress s s.events.awaiting s.events.orders
  refine List.foldlRecOn (motive := fun u => RestartKeeps s u) order _ same fun u hu b _ => ?_
  unfold State.restartBlock
  split
  · exact hu.trans ((RestartKeeps.progress u _ u.events.orders).trans (.blockRestarts _ b))
  · exact hu

theorem foldl_restartBlock_orders (s : State) (order : List RestartBlock) :
    (order.foldl State.restartBlock s).events.orders = s.events.orders := by
  refine foldl_keeps (g := fun u => u.events.orders) (fun u b => ?_) order s
  unfold State.restartBlock
  split
  · obtain ⟨-, -, -, -, -, -, orders, -⟩ :=
      blockRestarts_keeps (u.modEvents fun e => { e with awaiting := e.awaiting.filter fun x => x != b }) b
    exact orders
  · rfl

/-! ### The pool after the restart -/

/-- No account is charged more than its holders hold, and POOL_LOW ends above the band. -/
structure Charged (u : State) : Prop where
  queue : ∀ q : QueueId,
    (u.account q.acct).inUse ≤ ((u.storedBatches.filter fun b => b.queue == q).map Batch.cells).sum
  ret : (u.account retAcct).inUse ≤ u.returnsHeld
  low : u.pool.low = true → u.pool.freeCells < u.pool.lowWater + 64

theorem Charged.releases {s u : State} {gone : List Batch} {ret : Nat} (h : Charged s) (released : Releases s u gone ret) :
    Charged u where
  queue q := by
    have stored := ((released.stored.filter fun b => b.queue == q).map Batch.cells).sum_eq
    rw [List.filter_append, List.map_append, List.sum_append] at stored
    have before := h.queue q
    rw [released.account]
    simp only
    omega
  ret := by
    have before := h.ret
    have returns := released.returns
    rw [released.retAccount]
    simp only
    omega
  low isLow := by
    rcases released.low isLow with below | ⟨wasLow, same⟩
    · exact below
    · rw [same, released.lowWater]
      exact h.low wasLow

theorem Charged.foldl {s : State} (h : Charged s) (order : List RestartBlock) :
    Charged (order.foldl State.restartBlock s) := by
  refine List.foldlRecOn (motive := Charged) order _ h fun u hu b _ => ?_
  unfold State.restartBlock
  split
  · have begun : Charged (u.modEvents fun e => { e with awaiting := e.awaiting.filter fun x => x != b }) :=
      ⟨hu.queue, hu.ret, hu.low⟩
    obtain ⟨gone, ret, released⟩ := blockRestarts_releases _ b
    exact begun.releases released
  · exact hu

theorem flatMap_ite_eq (q : QueueId) (l : List Batch) :
    (List.finRange 16).flatMap (fun i => if i = q then l else []) = l := by
  have kept : ∀ xs : List QueueId,
      xs.flatMap (fun i => if i = q then l else []) = (xs.filter fun i => i == q).flatMap fun _ => l := by
    intro xs
    induction xs with
    | nil => rfl
    | cons i rest ih => by_cases here : i = q <;> simp [here, ih]
  have one : ∀ q : QueueId, (List.finRange 16).filter (fun i => i == q) = [q] := by decide
  rw [kept, one, List.flatMap_cons, List.flatMap_nil, List.append_nil]

theorem own_of_queueOk {s : State} {q : QueueId} (h : s.queueOk q) : ∀ b ∈ s.batchesOf q, b.queue = q := by
  obtain ⟨-, -, own, -⟩ := h
  exact own

/-- R91: what is charged to queue `q` is what is stored for it. -/
theorem batchesOf_eq_filter {s : State} (own : ∀ q, ∀ b ∈ s.batchesOf q, b.queue = q) (q : QueueId) :
    s.batchesOf q = s.storedBatches.filter fun b => b.queue == q := by
  have held : ∀ i, ((s.queues.get i).held.filter fun b => b.queue == q) = if i = q then (s.queue q).held else [] := by
    intro i
    have mine : ∀ b ∈ (s.queues.get i).held, b.queue = i := fun b hb => own i b (List.mem_append_left _ hb)
    split
    · rename_i here
      subst here
      exact List.filter_eq_self.2 fun b hb => by simp [mine b hb]
    · rename_i other
      exact List.filter_eq_nil_iff.2 fun b hb => by simp [mine b hb, other]
  have queues : (s.queues.list.flatMap Queue.held).filter (fun b => b.queue == q) = (s.queue q).held := by
    rw [Tab.flatMap_list, List.filter_flatMap]
    simp only [held]
    exact flatMap_ite_eq q _
  have windows : (s.trunks.list.flatMap fun k => k.bundles.map Bundle.batch).filter (fun b => b.queue == q) =
      (s.bundlesOf q).map Bundle.batch := by
    rw [Tab.flatMap_list, List.filter_flatMap, State.bundlesOf, List.map_flatMap]
    simp only [List.filter_map, Trunk.bundlesOf]
    rfl
  rw [State.batchesOf, State.storedBatches, List.filter_append, queues, windows]

/-- Batches are the batches of their queues. -/
theorem sum_over_queues (w : Batch → Nat) (l : List Batch) :
    ∑ q : QueueId, ((l.filter fun b => b.queue == q).map w).sum = (l.map w).sum := by
  induction l with
  | nil => simp
  | cons b rest ih =>
    have first : ∀ q : QueueId, (((b :: rest).filter fun b => b.queue == q).map w).sum =
        (if b.queue = q then w b else 0) + ((rest.filter fun b => b.queue == q).map w).sum := fun q => by
      by_cases here : b.queue = q <;> simp [here]
    simp only [first, Finset.sum_add_distrib, ih, Finset.sum_ite_eq, Finset.mem_univ, if_true, List.map_cons, List.sum_cons]

theorem inUseSum_eq (s : State) :
    s.pool.inUseSum = ∑ q : QueueId, (s.account q.acct).inUse + (s.account retAcct).inUse := by
  have all : s.pool.inUseSum = ∑ a : AcctId, (s.account a).inUse := by
    rw [Pool.inUseSum, Tab.list_eq_map_get, List.map_map, Fin.sum_univ_def]
    rfl
  rw [all, Fin.sum_univ_castSucc]
  rfl

section
variable {s : State} (storage : StorageInv s)
include storage

/-- R58, R60: the free cells and what is held make 2,048. -/
theorem storage_cells : s.pool.freeCells + (s.storedBatches.map Batch.cells).sum + s.returnsHeld = 2048 := by
  obtain ⟨⟨charged, ret, total⟩, -, -, queueOk⟩ := storage
  have own : ∀ q, ∀ b ∈ s.batchesOf q, b.queue = q := fun q => own_of_queueOk (queueOk q)
  simp only [batchesOf_eq_filter own] at charged
  have stored := sum_over_queues Batch.cells s.storedBatches
  simp only [← charged] at stored
  rw [inUseSum_eq, stored, ret] at total
  rw [State.returnsHeld, Nat.add_assoc]
  exact total

/-- R66: the free descriptors and those in use make 256. -/
theorem storage_descriptors : s.pool.freeDescriptors + s.storedBatches.length = 256 := by
  obtain ⟨-, descriptors, -, queueOk⟩ := storage
  have own : ∀ q, ∀ b ∈ s.batchesOf q, b.queue = q := fun q => own_of_queueOk (queueOk q)
  have stored := sum_over_queues (fun _ => 1) s.storedBatches
  simp only [List.map_const', List.sum_replicate, smul_eq_mul, mul_one] at stored
  rw [DescriptorsOk, ← Fin.sum_univ_def] at descriptors
  simp only [batchesOf_eq_filter own, stored] at descriptors
  exact descriptors

theorem charged_of_storage : Charged s := by
  obtain ⟨⟨charged, ret, -⟩, -, ⟨-, -, -, -, -, low⟩, queueOk⟩ := storage
  have own : ∀ q, ∀ b ∈ s.batchesOf q, b.queue = q := fun q => own_of_queueOk (queueOk q)
  refine ⟨fun q => ?_, ret.le, fun isLow => by simpa [isLow] using low⟩
  rw [charged q, batchesOf_eq_filter own]
end

end Sys2Proof.Machine
end


section
/-! SUPPORT. O35: what a restart does block by block, and what stands once every block has taken it. -/

namespace Sys2Proof.Machine

/-! ### The order, and one release of several batches -/

theorem nextOrder_cases (e : EventUnit) : (e.orders = [] → e.nextOrder = RestartBlock.all) ∧
    ∀ order later, e.orders = order :: later → e.nextOrder = order := by
  refine ⟨fun none => ?_, fun order later first => ?_⟩
  · rw [EventUnit.nextOrder, none]
    rfl
  · rw [EventUnit.nextOrder, first]
    rfl

theorem releaseBatches_eq_pool_events (s : State) (gone : List Batch) : s.releaseBatches gone =
    { s with pool := (s.releaseBatches gone).pool, events := (s.releaseBatches gone).events } := by
  apply State.eq_of_fields <;> simp

theorem releaseBatches_pool_eq (s : State) (gone : List Batch) : (s.releaseBatches gone).pool =
    { s.pool with
      freeCells := s.pool.freeCells + (gone.map Batch.cells).sum
      freeDescriptors := s.pool.freeDescriptors + gone.length
      accounts := (s.releaseBatches gone).pool.accounts
      low := (s.releaseBatches gone).pool.low } := by
  obtain ⟨cells, descriptors, lowWater, -⟩ := releaseBatches_spec s gone
  simp only [← cells, ← descriptors, ← lowWater]

/-! ### What the restart of the trunk unit makes of the queues -/

theorem trunkUnit_restarts_outstanding (s : State) (t : TrunkId) (q : QueueId) :
    ((s.blockRestarts (.trunkUnit t)).queue q).outstanding =
      (s.queue q).outstanding - ((s.trunk t).bundlesOf q).length := by
  obtain ⟨u, rfl, kept | ⟨-, off⟩⟩ := trunkUnitRestarts_queue s t q
  · exact congrArg Queue.outstanding kept
  · exact congrArg Queue.outstanding off

theorem trunk_restarted_eq (k : Trunk) (up : Bool) : k.restarted up =
    { k with
      state := if k.enabled = false then .disabled else if up then .running else .waiting
      stopRequested := false, hold := none, rrPointer := 15, levelPointers := .replicate 4 15, nextSeq := 0
      bundles := [] } := by
  rw [Trunk.restarted, restartedMode_eq]

/-! ### Every block has taken the restart -/

section
variable {s u : State} (keeps : RestartKeeps s u) (done : ∀ b, RestartBlock.Done b u)
include keeps done

theorem restarted_edge : u.edge = s.edge.restarted := by
  obtain ⟨restarted, -⟩ := done .edgeUnit
  exact restarted.trans keeps.edge

theorem restarted_steer : u.steer = s.steer.restarted := by
  have restarted : u.steer = u.steer.restarted := done .steeringUnit
  exact restarted.trans keeps.steer

theorem restarted_mgmt : u.mgmt = s.mgmt.restarted := by
  have restarted : u.mgmt = u.mgmt.restarted := done .managementUnit
  exact restarted.trans keeps.mgmt

theorem restarted_queue (q : QueueId) : u.queue q = (s.queue q).restarted := by
  obtain ⟨restarted, -⟩ := done .queueUnit
  exact (restarted q).trans (keeps.queue q)

theorem restarted_trunk (t : TrunkId) : u.trunk t = (s.trunk t).restarted (s.link t.port).up := by
  have restarted : u.trunk t = (u.trunk t).restarted (u.link t.port).up := done (.trunkUnit t)
  rw [keeps.up, keeps.trunk] at restarted
  exact restarted

theorem restarted_slot (i : SlotId) : u.slot i = (s.slot i).restarted := by
  have restarted : u.events = u.events.restarted := done .eventUnit
  have same : u.slot i = (u.slot i).restarted := by
    conv_lhs => rw [State.slot, restarted]
    exact Tab.get_map ..
  exact same.trans (keeps.slot i)

/-- R8, R15, R40, R114: whoever owned the wire, a block has aborted the transmission. -/
theorem restarted_link (p : Port) : u.link p = { up := (s.link p).up, txCount := 0, wire := none, control := [] } := by
  obtain ⟨control, txCount, noControl⟩ := done (.linkLayer p)
  obtain ⟨-, noReturn⟩ := done .edgeUnit
  obtain ⟨-, noBundle⟩ := done .queueUnit
  have idle : (u.link p).wire = none := by
    refine Option.eq_none_iff_forall_not_mem.2 fun w sending => ?_
    cases owner : w.owner with
    | control => exact noControl w sending owner
    | returnFrame => exact noReturn p w sending owner
    | bundle seq =>
      have bundle := noBundle p w sending
      rw [owner] at bundle
      exact Bool.noConfusion bundle
  rw [← keeps.up p, ← control, ← txCount, ← idle]

/-- R104: a restarted part has nothing to send. -/
theorem restarted_select (p : Port) : u.select p = u := by
  refine select_nothing u ?_ (fun k _ => ?_) fun t _ => ⟨?_, fun q => ?_⟩
  · rw [restarted_link keeps done]
  · rw [restarted_edge keeps done, restarted_returns]
  · rw [restarted_trunk keeps done]
    rfl
  · rw [restarted_queue keeps done]
    rfl

theorem restarted_selectAborted (v : State) (ports : List Port) : ports.foldl (State.selectAborted v) u = u := by
  refine List.foldl_fixed' (fun p => ?_) ports
  rw [State.selectAborted, restarted_select keeps done, ite_self]

theorem restarted_storedBatches : u.storedBatches = [] := by
  refine storedBatches_nil (fun q => ?_) fun t => ?_
  · rw [restarted_queue keeps done]
    exact ⟨rfl, rfl⟩
  · rw [restarted_trunk keeps done]
    rfl

theorem restarted_returnsHeld : u.returnsHeld = 0 := by
  refine returnsHeld_zero fun k => ?_
  rw [restarted_edge keeps done, restarted_returns]

/-- R58, R62: whatever was held is free. -/
theorem restarted_freeCells :
    u.pool.freeCells = s.pool.freeCells + (s.storedBatches.map Batch.cells).sum + s.returnsHeld := by
  have cells := keeps.cells
  rw [restarted_storedBatches keeps done, restarted_returnsHeld keeps done] at cells
  exact cells

theorem restarted_freeDescriptors : u.pool.freeDescriptors = s.pool.freeDescriptors + s.storedBatches.length := by
  have descriptors := keeps.descriptors
  rw [restarted_storedBatches keeps done] at descriptors
  exact descriptors

theorem restarted_inUse (charged : Charged u) (a : AcctId) : (u.account a).inUse = 0 := by
  rcases acct_cases a with rfl | ⟨q, rfl⟩
  · have held := charged.ret
    rwa [restarted_returnsHeld keeps done, Nat.le_zero] at held
  · have held := charged.queue q
    rwa [restarted_storedBatches keeps done, List.filter_nil, List.map_nil, List.sum_nil, Nat.le_zero] at held

theorem restarted_pool (storage : StorageInv s) (charged : Charged u) : u.pool.freeCells = 2048 ∧
    u.pool.freeDescriptors = 256 ∧ u.pool.low = false ∧ ∀ a, (u.account a).inUse = 0 := by
  have cells : u.pool.freeCells = 2048 := by rw [restarted_freeCells keeps done, storage_cells storage]
  have descriptors : u.pool.freeDescriptors = 256 := by
    rw [restarted_freeDescriptors keeps done, storage_descriptors storage]
  have recovered : ¬ u.pool.low = true := fun low => by
    obtain ⟨-, -, ⟨-, -, -, -, highest, -⟩, -⟩ := storage
    have below := charged.low low
    have lowWater := keeps.lowWater
    omega
  exact ⟨cells, descriptors, Bool.eq_false_of_not_eq_true recovered, restarted_inUse keeps done charged⟩
end

/-! ### The parts of a restarted unit, one by one -/

theorem edge_restarted_eq (e : Edge) : e.restarted = { e with
    directory := e.restarted.directory, fullRefusal := false, returns := e.restarted.returns } := rfl

/-- R40: the pinned entries stay. -/
theorem edge_restarted_directory (e : Edge) (i : DirPos) : e.restarted.directory.get i =
    match e.directory.get i with
    | none => none
    | some d => if d.origin = .learned then none else some d :=
  removeEntries_get_of_iff e (fun _ => beq_iff_eq) i

/-- R46, R47, R57: the active bank and the defaults stay. -/
theorem steer_restarted_keeps (x : Steer) : x.restarted.activeBank = x.activeBank ∧ x.restarted.active = x.active ∧
    x.restarted.generation = x.generation ∧ x.restarted.defaultAction = x.defaultAction ∧
    x.restarted.defaultQueue = x.defaultQueue ∧ x.restarted.syncing = false := by
  have keeps := setShadow_eq x (.ofFn x.syncedEntry)
  have generation := congrArg Steer.generation keeps
  have defaultAction := congrArg Steer.defaultAction keeps
  have defaultQueue := congrArg Steer.defaultQueue keeps
  exact ⟨setShadow_activeBank x _, setShadow_active x _, generation, defaultAction, defaultQueue, rfl⟩

theorem steer_restarted_shadow (x : Steer) (i : EntryId) : x.restarted.shadowBank.get i =
    if x.syncing = true ∧ x.nextIndex ≤ i.val ∧ x.marks.get i = false then x.activeBank.get i
    else x.shadowBank.get i := by
  have shadow : x.restarted.shadowBank = .ofFn x.syncedEntry := setShadow_shadowBank x _
  rw [shadow, Tab.get_ofFn, Steer.syncedEntry]
  simp [and_assoc]

theorem steer_restarted_hits (x : Steer) : (∀ i, x.restarted.marks.get i = false) ∧
    (∀ i, x.restarted.hitsA.get i = 0) ∧ ∀ i, x.restarted.hitsB.get i = 0 := by simp [Steer.restarted]

/-- R165. -/
theorem counters_reset {u : State} (reset : u.counters = Counters.reset) : (∀ p c, u.portCounter p c = 0) ∧
    (∀ q c, u.queueCounter q c = 0) ∧ (∀ t c, u.trunkCounter t c = 0) ∧ ∀ c, u.mgmtCounter c = 0 := by
  simp [State.portCounter, State.queueCounter, State.trunkCounter, State.mgmtCounter, reset, Counters.reset]

/-! ### RESTART_BEGIN with an order that names every block -/

/-- The part once the blocks of the next order have taken the restart. -/
def State.restartedWhole (s : State) : State := s.events.nextOrder.foldl State.restartBlock s.restarting

section
variable (s : State)

theorem restartedWhole_keeps : RestartKeeps s s.restartedWhole :=
  (RestartKeeps.progress s _ _).trans (keeps_foldl s.restarting s.events.nextOrder)

/-- R154: what no block's restart changes, and the progress of the restart. -/
theorem restartedWhole_apart : s.restartedWhole.now = s.now ∧ s.restartedWhole.ownAddress = s.ownAddress ∧
    s.restartedWhole.pending = s.pending ∧ s.restartedWhole.profiles = s.profiles ∧
    s.restartedWhole.resetLow = s.resetLow ∧ s.restartedWhole.events.orders = s.events.orders.tail := by
  have kept : ∀ {β : Type} {g : State → β} (_ : ∀ t b, g (State.blockRestarts t b) = g t)
      (_ : ∀ t f, g (State.modEvents t f) = g t), g s.restartedWhole = g s.restarting :=
    fun block progress => foldl_restartBlock_keeps _ block progress s.events.nextOrder
  refine ⟨kept (fun t b => ?_) fun _ _ => rfl, kept (fun t b => ?_) fun _ _ => rfl, kept (fun t b => ?_) fun _ _ => rfl,
    kept (fun t b => ?_) fun _ _ => rfl, kept (fun t b => ?_) fun _ _ => rfl, foldl_restartBlock_orders _ _⟩
  all_goals
    obtain ⟨pending, resetLow, now, ownAddress, profiles, -⟩ := blockRestarts_keeps t b
    assumption

variable {s} (due : s.mgmt.mode = .restartDue) (noneInProgress : s.events.awaiting = [])
  (named : ∀ b, b ∈ s.events.nextOrder)

include noneInProgress in
theorem restarting_awaiting : s.restarting.events.awaiting = RestartBlock.all := if_pos noneInProgress

include noneInProgress named in
theorem restartedWhole_done (b : RestartBlock) : RestartBlock.Done b s.restartedWhole := by
  refine done_foldl (named b) ?_
  rw [restarting_awaiting noneInProgress]
  exact RestartBlock.mem_all b

include named in
theorem restartedWhole_awaiting : s.restartedWhole.events.awaiting = [] := by
  rw [State.restartedWhole, foldl_restartBlock_awaiting, List.filter_eq_nil_iff]
  exact fun b _ => by simp [named b]

include due noneInProgress named in
theorem exec_restartBegin_whole (high : s.resetLow = false) :
    exec .restartBegin s = .next (s.restartedWhole.takeRaise (raiseOf .restarted 0 0)) := by
  have idle := restarted_selectAborted (restartedWhole_keeps s) (restartedWhole_done noneInProgress named) s
  rw [exec_restartBegin high, restarts_of_due (.inl due) (idle _).symm, if_pos (restartedWhole_awaiting named)]

theorem restartedWhole_charged (storage : StorageInv s) : Charged s.restartedWhole := by
  obtain ⟨queue, ret, low⟩ := charged_of_storage storage
  exact Charged.foldl (s := s.restarting) ⟨queue, ret, low⟩ _
end

/-- Settles O35: each block's restart by its own record equation; the whole by induction on the order, with what every block
keeps (`RestartKeeps`) and what a block's restart leaves for good (`RestartBlock.Done`). -/
theorem restartKeepsConfiguration : Obligations.RestartKeepsConfiguration := by
  refine ⟨nextOrder_cases, fun s => rfl, ?releases, ?edgeUnit, fun s => rfl, ?queueUnit, ?trunkUnit,
    fun s b => ⟨restartBlock_of_not_mem, restartBlock_of_mem⟩,
    fun s t p => ⟨selectAborted_of_aborted, selectAborted_of_not_aborted⟩, ?begins, RestartBlock.mem_all, ?idle, ?whole⟩
  case releases =>
    rintro s _ gone n rfl cells
    obtain ⟨recovers, falls, within⟩ := releaseBatches_outcome s gone cells
    refine ⟨releaseBatches_eq_pool_events s gone, ?_, releaseBatches_account s gone, releaseBatches_retAccount s gone,
      fun some low above => ?_, fun some notLow below => ?_, fun band => ?_⟩
    · rw [cells]
      exact releaseBatches_pool_eq s gone
    · rw [recovers some low above]
      exact ⟨rfl, rfl⟩
    · rw [falls some notLow below]
      exact ⟨rfl, rfl⟩
    · rw [within band]
      exact ⟨given_low s gone, rfl⟩
  case edgeUnit =>
    rintro s _ rfl
    rw [edgeUnit_restarts]
    refine ⟨rfl, rfl, rfl, restarted_returns s.edge, fun p => ?_⟩
    exact Tab.get_map ..
  case queueUnit =>
    rintro s _ _ rfl rfl
    refine ⟨?_, ?_, ?_, queueUnit_restarts_queue s, fun t => ?_⟩
    · rw [queueUnit_restarts]
    · rw [queueUnit_restarts]
      rfl
    · rw [queueUnit_restarts]
      rfl
    · rw [blockRestarts_trunk, if_neg nofun, if_pos rfl, emptied_bundles]
  case trunkUnit =>
    rintro s _ t rfl
    refine ⟨?_, ?_, ?_, ?_, trunkUnit_restarts_outstanding s t⟩
    · rw [trunkUnit_restarts]
    · rw [trunkUnit_restarts]
    · rw [trunkUnit_restarts]
    · rw [trunkUnit_restarts, ← trunk_restarted_eq]
      rfl
  case begins =>
    rintro s _ v high due rfl taken
    rw [exec_restartBegin high, restarts_of_due due taken]
    exact ⟨fun inProgress => by rw [if_neg inProgress], fun ended => by rw [if_pos ended]; rfl⟩
  case idle =>
    intro s high notDue noneInProgress
    rw [exec_restartBegin high, restarts_none notDue noneInProgress]
  case whole =>
    intro s high due noneInProgress named
    have keeps := restartedWhole_keeps s
    have done := restartedWhole_done noneInProgress named
    have edge := restarted_edge keeps done
    have steer := restarted_steer keeps done
    have eventsDone : s.restartedWhole.events = s.restartedWhole.events.restarted := done .eventUnit
    obtain ⟨now, ownAddress, pending, profiles, resetLow, orders⟩ := restartedWhole_apart s
    obtain ⟨activeBank, active, generation, defaultAction, defaultQueue, syncing⟩ := steer_restarted_keeps s.steer
    obtain ⟨marks, hitsA, hitsB⟩ := steer_restarted_hits s.steer
    refine ⟨s.restartedWhole, exec_restartBegin_whole due noneInProgress named high, now, ownAddress, pending, profiles,
      resetLow.trans high, restarted_link keeps done, ?_, ?_, ?_, ?_⟩
    · rw [edge]
      exact edge_restarted_eq s.edge
    · rw [edge]
      exact restarted_returns s.edge
    · rw [edge]
      exact edge_restarted_directory s.edge
    rw [steer]
    refine ⟨activeBank, active, generation, defaultAction, defaultQueue, syncing, steer_restarted_shadow s.steer,
      marks, hitsA, hitsB, restarted_freeCells keeps done, restarted_freeDescriptors keeps done,
      keeps.lowWater, keeps.account, fun storage => restarted_pool keeps done storage (restartedWhole_charged storage),
      restarted_queue keeps done, fun t => ?_, restarted_mgmt keeps done, restarted_slot keeps done,
      congrArg EventUnit.records eventsDone, congrArg EventUnit.lost eventsDone, restartedWhole_awaiting named, orders,
      keeps.raised, counters_reset (done .counterBlock)⟩
    rw [restarted_trunk keeps done, trunk_restarted_eq]

end Sys2Proof.Machine
end


section
/-! SUPPORT. The steering unit: which entry decides a frame (R41 to R46), and one sync step (R54, R55). -/

namespace Sys2Proof.Machine

/-! ### Classification -/

theorem hit_iff (e : SteerEntry) (k : EdgeId) (src : Half) (tag : Byte) :
    e.hit k src tag = true ↔ e.valid = true ∧ e.portSet.getLsbD k.val = true ∧
      src &&& e.srcMask = e.srcValue &&& e.srcMask ∧ tag &&& e.tagMask = e.tagValue &&& e.tagMask := by
  simp [SteerEntry.hit, and_assoc]

section
variable {x : Steer} {k : EdgeId} {src : Half} {tag : Byte}

/-- R44: a matching entry with no matching entry below it is the one that decides. -/
theorem decide_eq_first {i : EntryId} (matching : (x.activeBank.get i).hit k src tag = true)
    (first : ∀ j, j < i → (x.activeBank.get j).hit k src tag = false) :
    x.decide k src tag = some (i, x.activeBank.get i) := by
  cases decided : x.decide k src tag with
  | none => exact absurd matching (Bool.eq_false_iff.1 (decide_none decided i))
  | some p =>
    obtain ⟨j, e⟩ := p
    obtain ⟨rfl, matches_j, first_j⟩ := decide_some decided
    rcases lt_trichotomy j i with below | rfl | above
    · exact absurd matches_j (Bool.eq_false_iff.1 (first j below))
    · rfl
    · exact absurd matching (Bool.eq_false_iff.1 (first_j i above))

/-- R45: without a matching entry none decides. -/
theorem decide_eq_none (noMatch : ∀ i, (x.activeBank.get i).hit k src tag = false) : x.decide k src tag = none := by
  cases decided : x.decide k src tag with
  | none => rfl
  | some p =>
    obtain ⟨i, e⟩ := p
    obtain ⟨rfl, matching, -⟩ := decide_some decided
    exact absurd matching (Bool.eq_false_iff.1 (noMatch i))
end

section
variable {s : State} {k : EdgeId} {f : Frame}

theorem classify_first {i : EntryId} (matching : (s.steer.activeBank.get i).hit k f.src f.tag = true)
    (first : ∀ j, j < i → (s.steer.activeBank.get j).hit k f.src f.tag = false) : s.classify k f =
      (s.modSteer fun x => x.countHit i).steerTo (s.steer.activeBank.get i).action (s.steer.activeBank.get i).queue k f := by
  rw [State.classify, decide_eq_first matching first]

theorem classify_miss (noMatch : ∀ i, (s.steer.activeBank.get i).hit k f.src f.tag = false) : s.classify k f =
    (s.countPort k.port .steerMiss 1).steerTo s.steer.defaultAction s.steer.defaultQueue k f := by
  rw [State.classify, decide_eq_none noMatch]
end

/-- Settles O15: the entry decides that `Steer.decide` finds, and `State.steerTo` does its action or the default one. -/
theorem firstMatchingEntryDecides : Obligations.FirstMatchingEntryDecides := by
  refine ⟨fun x => ⟨?_, ?_, rfl, rfl, fun h => ⟨rfl, rfl⟩⟩, hit_iff, fun k f s => ⟨fun i matching first =>
    ⟨s.modSteer fun x => x.countHit i, rfl, ?_, ?_⟩, fun noMatch => ⟨?_, ?_⟩⟩⟩
  · intro active
    simp [Steer.activeBank, Steer.shadowBank, active, Steer.bank, Bank.other]
  · intro active
    simp [Steer.activeBank, Steer.shadowBank, active, Steer.bank, Bank.other]
  · intro toQueue
    rw [classify_first matching first, toQueue]
    rfl
  · intro discard
    rw [classify_first matching first, discard]
    rfl
  · intro toQueue
    rw [classify_miss noMatch, toQueue]
    rfl
  · intro discard
    rw [classify_miss noMatch, discard]
    rfl

/-! ### SYNC_STEP -/

theorem exec_syncStep_idle {s : State} (high : s.resetLow = false) (idle : s.steer.syncing = false) :
    exec .syncStep s = .next s := by
  change execSyncStep s = .next s
  rw [execSyncStep, live_of_high high, if_neg (Bool.eq_false_iff.1 idle)]

theorem exec_syncStep_syncing {s : State} {i : EntryId} (high : s.resetLow = false) (syncing : s.steer.syncing = true)
    (next : s.steer.nextIndex = i.val) : exec .syncStep s = .next (s.syncs i) := by
  change execSyncStep s = .next (s.syncs i)
  rw [execSyncStep, live_of_high high, if_pos syncing, index_of_eq next]

section
variable (x : Steer) (i : EntryId)

/-- R54: a sync step changes one bank and the next index alone. -/
theorem syncStep_eq : x.syncStep i =
    { x with bankA := (x.syncStep i).bankA, bankB := (x.syncStep i).bankB, nextIndex := i.val + 1 } := by
  unfold Steer.syncStep
  cases x.marks.get i with
  | true => rfl
  | false =>
    simp only [Bool.false_eq_true, if_false]
    rw [setShadow_eq]

theorem syncStep_activeBank : (x.syncStep i).activeBank = x.activeBank := by
  unfold Steer.syncStep
  cases x.marks.get i with
  | true => rfl
  | false => exact setShadow_activeBank x _

/-- R54: the shadow entry of the index takes the active entry, unless its mark is set. -/
theorem syncStep_shadow (j : EntryId) : (x.syncStep i).shadowBank.get j =
    if j = i ∧ x.marks.get i = false then x.activeBank.get i else x.shadowBank.get j := by
  unfold Steer.syncStep
  cases mark : x.marks.get i with
  | true => exact (if_neg (by simp)).symm
  | false =>
    have shadow : (x.setShadow (x.shadowBank.set i (x.activeBank.get i))).shadowBank.get j =
        if j = i then x.activeBank.get i else x.shadowBank.get j := by rw [setShadow_shadowBank, Tab.get_set]
    simp only [and_true]
    exact shadow
end

section
variable {s : State} {i : EntryId}

/-- R55: the step for index 255 ends the sync. -/
theorem syncs_last (last : i.val = 255) : s.syncs i = { s with
    steer := { s.steer.syncStep i with syncing := false }
    events := { s.events with raised := s.events.raised ++ [{ block := .steeringUnit, events :=
      [raiseOf .tableSynced s.steer.active.code s.steer.generation.toNat] }] } } :=
  if_pos last

theorem syncs_before (before : i.val ≠ 255) : s.syncs i = { s with steer := s.steer.syncStep i } := if_neg before

theorem syncs_steer (syncing : s.steer.syncing = true) :
    (s.syncs i).steer = { s.steer.syncStep i with syncing := decide (i.val ≠ 255) } := by
  by_cases last : i.val = 255
  · rw [syncs_last last, last]
    rfl
  · rw [syncs_before last, decide_eq_true last, ← syncing, syncStep_eq]
end

/-- Settles O32: the steering unit after the step by `syncs_steer`, the rest by whether the step is the last. -/
theorem syncStepCopiesOneEntry : Obligations.SyncStepCopiesOneEntry := by
  refine ⟨fun s high idle => exec_syncStep_idle high idle, fun s i high syncing next =>
    ⟨s.syncs i, exec_syncStep_syncing high syncing next, ?_, ?_, ?_, fun j => ?_, fun before => ?_, fun last => ?_⟩⟩
  · by_cases last : i.val = 255
    · rw [syncs_last last]
    · rw [syncs_before last]
  · rw [syncs_steer syncing, syncStep_eq]
  · rw [syncs_steer syncing]
    exact syncStep_activeBank s.steer i
  · rw [syncs_steer syncing]
    exact syncStep_shadow s.steer i j
  · rw [syncs_before before]
  · rw [syncs_last last]
    rfl

end Sys2Proof.Machine
end


section
/-! SUPPORT. The requests of the steering unit: TABLE_WRITE, TABLE_CLEAR, COMMIT, TABLE_READ and READ_HITS (R42, R48 to R53). -/

namespace Sys2Proof.Machine

/-! ### The rows of the steering unit -/

section
variable {s u : State} {r : Request} {rest : List Request} {st : Status} {data : List Byte}

/-- R140, R142: what a row answers whose body's outcome is known. -/
theorem row_answers_of_body {k : RequestKind} {row : RequestRow} {body : State → Request → State × Reply}
    (admits : s.admits r rest k) (own : r.row = row) (notRestart : row ≠ .restart)
    (outcome : body (s.taken r rest) r = (u, { status := st, data := data })) :
    live s (s.takeRequest row body) = .next (u.answered r st data) := by
  rw [row_answers admits own notRestart, outcome]

theorem exec_tableWrite (admits : s.admits r rest .tableWrite)
    (outcome : tableWriteBody (s.taken r rest) r = (u, { status := st, data := data })) :
    exec .tableWrite s = .next (u.answered r st data) :=
  row_answers_of_body admits (row_of_kind (kind_of_admits admits)) (by decide) outcome

theorem exec_tableClear (admits : s.admits r rest .tableClear)
    (outcome : tableClearBody (s.taken r rest) r = (u, { status := st, data := data })) :
    exec .tableClear s = .next (u.answered r st data) :=
  row_answers_of_body admits (row_of_kind (kind_of_admits admits)) (by decide) outcome

theorem exec_commit (admits : s.admits r rest .commit)
    (outcome : commitBody (s.taken r rest) r = (u, { status := st, data := data })) :
    exec .commit s = .next (u.answered r st data) :=
  row_answers_of_body admits (row_of_kind (kind_of_admits admits)) (by decide) outcome

theorem exec_tableRead (admits : s.admits r rest .tableRead)
    (outcome : tableReadBody (s.taken r rest) r = (u, { status := st, data := data })) :
    exec .tableRead s = .next (u.answered r st data) :=
  row_answers_of_body admits (row_of_kind (kind_of_admits admits)) (by decide) outcome

theorem exec_readHits (admits : s.admits r rest .readHits)
    (outcome : readHitsBody (s.taken r rest) r = (u, { status := st, data := data })) :
    exec .readHits s = .next (u.answered r st data) :=
  row_answers_of_body admits (row_of_kind (kind_of_admits admits)) (by decide) outcome
end

/-! ### Shadow edits -/

/-- R48, R49: the steering unit with another shadow bank and other marks. -/
def Steer.edited (x : Steer) (shadow : Tab SteerEntry 256) (marks : Tab Bool 256) : Steer :=
  { x.setShadow shadow with marks := marks }

section
variable (x : Steer) (shadow : Tab SteerEntry 256) (marks : Tab Bool 256)

theorem edited_eq : x.edited shadow marks =
    { x with bankA := (x.edited shadow marks).bankA, bankB := (x.edited shadow marks).bankB, marks := marks } := by
  unfold Steer.edited
  rw [setShadow_eq]

theorem edited_activeBank : (x.edited shadow marks).activeBank = x.activeBank := setShadow_activeBank x shadow

theorem edited_shadowBank : (x.edited shadow marks).shadowBank = shadow := setShadow_shadowBank x shadow
end

theorem actionOf_none {c : Nat} (above : 1 < c) : actionOf c = none := by
  unfold actionOf
  split
  · omega
  · omega
  · rfl

theorem actionOf_some {c : Nat} (known : c ≤ 1) : actionOf c = some (if c = 0 then .discard else .toQueue) := by
  obtain rfl | rfl : c = 0 ∨ c = 1 := by omega
  · rfl
  · rfl

/-- R48: the entry that the operands of a TABLE_WRITE describe, with its action and queue. -/
def Request.steerEntry (r : Request) (a : SteerAction) (q : QueueId) : SteerEntry :=
  { valid := decide (r.op 2 ≠ 0), portSet := r.op 3, srcValue := r.op16 4, srcMask := r.op16 6, tagValue := r.op 8,
    tagMask := r.op 9, action := a, queue := q }

section
variable {s : State} {r : Request}

theorem tableWriteBody_badIndex (above : 256 ≤ (r.op16 0).toNat) : tableWriteBody s r = (s, .refuse .badIndex) := by
  rw [tableWriteBody, index_none above]

theorem tableWriteBody_badValue (index : (r.op16 0).toNat < 256) (bad : 1 < (r.op 10).toNat ∨ 16 ≤ (r.op 11).toNat) :
    tableWriteBody s r = (s, .refuse .badValue) := by
  have entry : index? 256 (r.op16 0).toNat = some ⟨_, index⟩ := index_of_eq rfl
  rcases Nat.lt_or_ge 1 (r.op 10).toNat with above | known
  · simp only [tableWriteBody, Request.opNat, entry, actionOf_none above]
  · have noQueue : 16 ≤ (r.op 11).toNat := bad.resolve_left (Nat.not_lt.2 known)
    simp only [tableWriteBody, Request.opNat, entry, actionOf_some known, index_none noQueue]

theorem tableWriteBody_ok {i : EntryId} {q : QueueId} (index : (r.op16 0).toNat = i.val)
    (queue : (r.op 11).toNat = q.val) (known : (r.op 10).toNat ≤ 1) {e : SteerEntry}
    (entry : e = r.steerEntry (if (r.op 10).toNat = 0 then .discard else .toQueue) q) : tableWriteBody s r =
      ({ s with steer := s.steer.edited (s.steer.shadowBank.set i e) (s.steer.marks.set i true) }, .done []) := by
  have valid : (r.op 2 != 0) = decide (r.op 2 ≠ 0) := by simp [bne, beq_eq_decide]
  simp only [tableWriteBody, Request.opNat, index_of_eq index, actionOf_some known, index_of_eq queue, valid, entry]
  rfl

theorem tableClearBody_eq : tableClearBody s r =
    ({ s with steer := s.steer.edited (.replicate 256 .blank) (.replicate 256 true) }, .done []) := rfl

theorem commitBody_busy (syncing : s.steer.syncing = true) :
    commitBody s r = (s, { status := .busy, data := be16n s.steer.nextIndex }) := if_pos syncing

theorem commitBody_ok (idle : s.steer.syncing = false) : commitBody s r = ({ s with steer := s.steer.committed },
    .done (be16 (s.steer.generation + 1) ++ [byteOf s.steer.committed.active.code])) :=
  if_neg (Bool.eq_false_iff.1 idle)
end

/-- R149: the byte of a bank. -/
theorem byteOf_bankCode (w : Bank) : byteOf w.code = if w = .a then 0 else 1 := by cases w <;> rfl

section
variable (x : Steer)

/-- R52: what a COMMIT changes of the steering unit. -/
theorem committed_eq : x.committed = { x with
    active := x.active.other, generation := x.generation + 1, hitsA := x.committed.hitsA, hitsB := x.committed.hitsB,
    marks := x.committed.marks, syncing := true, nextIndex := 0 } := by
  unfold Steer.committed Steer.setHits
  cases x.active.other <;> rfl

/-- R52: the banks change places. -/
theorem committed_banks : x.committed.activeBank = x.shadowBank ∧ x.committed.shadowBank = x.activeBank := by
  rw [committed_eq]
  cases active : x.active <;> simp [Steer.activeBank, Steer.shadowBank, Steer.bank, Bank.other, active]

/-- R52: the hit counters of the new active bank are 0. -/
theorem committed_hits : x.committed.hits x.committed.active = .replicate 256 0 := by
  have hits := setHits_hits_self x x.active.other (.replicate 256 0)
  unfold Steer.committed
  cases other : x.active.other <;> rwa [other] at hits
end

/-- Settles O44: each row's body by its checks, and the steering unit that an edit or a COMMIT leaves. -/
theorem shadowRequests : Obligations.ShadowRequests := by
  refine ⟨rfl, ?_⟩
  rintro s u r rest rfl
  have taken : (s.taken r rest).steer = s.steer := taken_steer s r rest
  refine ⟨fun admits => ⟨fun above => exec_tableWrite admits (tableWriteBody_badIndex above),
    fun index bad => exec_tableWrite admits (tableWriteBody_badValue index bad), fun i q index queue known =>
      ⟨_, exec_tableWrite admits (tableWriteBody_ok index queue known rfl), ?_⟩⟩,
    fun admits => ⟨_, exec_tableClear admits tableClearBody_eq, ?_⟩,
    fun admits => ⟨fun syncing => ?_, fun idle => ⟨s.steer.committed, ?_, ?_⟩⟩⟩
  · rw [taken]
    refine ⟨edited_eq .., edited_activeBank .., fun j other => ?_, ?_⟩
    · rw [edited_shadowBank, Tab.get_set_ne _ _ other]
    · rw [edited_shadowBank, Tab.get_set_self, Request.steerEntry]
  · rw [taken]
    refine ⟨edited_eq .., edited_activeBank .., fun j => ?_, fun j => Tab.get_replicate ..⟩
    rw [edited_shadowBank, Tab.get_replicate]
  · have busy := exec_commit admits (commitBody_busy (by rw [taken, syncing]))
    rwa [taken] at busy
  · have ok := exec_commit admits (commitBody_ok (by rw [taken, idle]))
    rwa [taken, byteOf_bankCode] at ok
  · obtain ⟨active, shadow⟩ := committed_banks s.steer
    refine ⟨committed_eq s.steer, active, shadow, fun i => ?_, fun i => Tab.get_replicate ..⟩
    rw [committed_hits, Tab.get_replicate]

/-! ### TABLE_READ and READ_HITS -/

/-- R42, R149: the bytes of an entry, written out (log 34). -/
theorem steerEntry_bytes (e : SteerEntry) : e.bytes =
    [if e.valid then 1 else 0, e.portSet] ++ be16 e.srcValue ++ be16 e.srcMask ++
      [e.tagValue, e.tagMask, if e.action = .discard then 0 else 1, byteOf e.queue.val] := by
  have valid : byteOf e.valid.toNat = if e.valid then 1 else 0 := by cases e.valid <;> rfl
  have action : byteOf e.action.code = if e.action = .discard then 0 else 1 := by cases e.action <;> rfl
  rw [SteerEntry.bytes, valid, action]

/-- R50: the flags byte of a shadow read, written out. -/
theorem readFlags_byte (x : Steer) (i : EntryId) : byteOf (x.readFlags i) =
    if x.marks.get i then 1 else if x.syncing ∧ x.nextIndex ≤ i.val then 2 else 0 := by
  unfold Steer.readFlags Steer.syncPending
  cases x.marks.get i with
  | true => rfl
  | false => by_cases waits : x.syncing ∧ x.nextIndex ≤ i.val <;> simp [waits, byteOf]

/-- R50: the bytes of a read of either bank, written out. -/
theorem readBytes_eq (x : Steer) (shadow : Bool) (i : EntryId) : x.readBytes shadow i =
    [if shadow = (x.active == Bank.a) then 1 else 0] ++ be16 x.generation ++
      (if shadow then x.shadowBank.get i else x.activeBank.get i).bytes ++
      [if shadow = false then 0 else if x.marks.get i then 1
       else if x.syncing ∧ x.nextIndex ≤ i.val then 2 else 0] := by
  unfold Steer.readBytes
  cases shadow with
  | true =>
    have bank : byteOf x.active.other.code = if true = (x.active == Bank.a) then 1 else 0 := by cases x.active <;> rfl
    rw [bank, readFlags_byte]
    rfl
  | false =>
    have bank : byteOf x.active.code = if false = (x.active == Bank.a) then 1 else 0 := by cases x.active <;> rfl
    rw [bank]
    rfl

section
variable {s : State} {r : Request}

theorem tableReadBody_badValue (bad : 1 < (r.op 0).toNat) : tableReadBody s r = (s, .refuse .badValue) := if_pos bad

theorem tableReadBody_badIndex (known : (r.op 0).toNat ≤ 1) (above : 256 ≤ (r.op16 1).toNat) :
    tableReadBody s r = (s, .refuse .badIndex) := by
  rw [tableReadBody, Request.opNat, if_neg (Nat.not_lt.2 known), index_none above]

theorem tableReadBody_ok {i : EntryId} {shadow : Bool} (index : (r.op16 1).toNat = i.val)
    (selector : (r.op 0).toNat = shadow.toNat) :
    tableReadBody s r = (s, .done (s.steer.readBytes shadow i)) := by
  have known : ¬ 1 < shadow.toNat := Nat.not_lt.2 (Bool.toNat_le shadow)
  have bank : (shadow.toNat == 1) = shadow := by cases shadow <;> rfl
  rw [tableReadBody, Request.opNat, selector, if_neg known, index_of_eq index, bank]

theorem readHitsBody_first (above : 255 < (r.op16 0).toNat) : readHitsBody s r = (s, .refuse .badIndex) := if_pos above

theorem readHitsBody_badValue (first : (r.op16 0).toNat ≤ 255) (bad : (r.op 2).toNat = 0 ∨ 56 < (r.op 2).toNat) :
    readHitsBody s r = (s, .refuse .badValue) :=
  (if_neg (Nat.not_lt.2 first)).trans (if_pos bad)

/-- R51: a count in range that runs past the last entry. -/
theorem readHitsBody_last (least : 1 ≤ (r.op 2).toNat) (most : (r.op 2).toNat ≤ 56)
    (past : 256 < (r.op16 0).toNat + (r.op 2).toNat) : readHitsBody s r = (s, .refuse .badIndex) := by
  have count : ¬ ((r.op 2).toNat = 0 ∨ 56 < (r.op 2).toNat) := by omega
  by_cases first : 255 < (r.op16 0).toNat
  · exact readHitsBody_first first
  · exact (if_neg first).trans ((if_neg count).trans (if_pos past))

theorem readHitsBody_ok (least : 1 ≤ (r.op 2).toNat) (most : (r.op 2).toNat ≤ 56)
    (within : (r.op16 0).toNat + (r.op 2).toNat ≤ 256) : readHitsBody s r =
      (s, .done (be16 s.steer.generation ++
        (((s.steer.hits s.steer.active).list.drop (r.op16 0).toNat).take (r.op 2).toNat).flatMap be32)) := by
  have first : ¬ 255 < (r.op16 0).toNat := by omega
  have count : ¬ ((r.op 2).toNat = 0 ∨ 56 < (r.op 2).toNat) := by omega
  exact (if_neg first).trans ((if_neg count).trans (if_neg (Nat.not_lt.2 within)))
end

/-- Settles O45: both rows' bodies by their checks, with the bytes written out. -/
theorem tableReads : Obligations.TableReads := by
  rintro s u r rest rfl
  have taken : (s.taken r rest).steer = s.steer := taken_steer s r rest
  refine ⟨fun admits => ⟨fun bad => exec_tableRead admits (tableReadBody_badValue bad),
      fun known above => exec_tableRead admits (tableReadBody_badIndex known above), ?_⟩,
    fun admits => ⟨fun above => exec_readHits admits (readHitsBody_first above),
      fun first bad => exec_readHits admits (readHitsBody_badValue first bad),
      fun least most past => exec_readHits admits (readHitsBody_last least most past), fun least most within => ?_⟩⟩
  · rintro i shadow e index selector rfl
    have ok := exec_tableRead admits (tableReadBody_ok index selector)
    rwa [taken, readBytes_eq, steerEntry_bytes] at ok
  · have ok := exec_readHits admits (readHitsBody_ok least most within)
    rwa [taken] at ok

end Sys2Proof.Machine
end


section
/-! SUPPORT. WRITE_ITEM (R45, R73, R74, R95, R157, R159, R160): the item of each name, the row that takes a write, and the writes
of the items without a behaviour of their own. -/

namespace Sys2Proof.Machine

/-! ### Names -/

theorem ofName_port (p : Port) (field : Nat) : Item.ofName 1 p.val field = Item.ofPort p field := by
  simp [Item.ofName, index_of_eq rfl]

theorem ofName_trunk (t : TrunkId) (field : Nat) : Item.ofName 1 (8 + t.val) field = Item.ofPort t.port field :=
  ofName_port t.port field

theorem ofName_queue (q : QueueId) (field : Nat) : Item.ofName 2 q.val field = Item.ofQueue q field := by
  simp [Item.ofName, index_of_eq rfl]

theorem ofName_profile (f : ProfileId) (field : Nat) : Item.ofName 3 f.val field = Item.ofProfile f field := by
  simp [Item.ofName, index_of_eq rfl]

/-! ### Rows -/

theorem writeRow_edgeAdmin (k : EdgeId) (v : Nat) : (Item.portAdmin k.port).writeRow v = .writeEdgeAdminState := by
  simp only [Item.writeRow, side_edge]

theorem writeRow_trunkAdmin (t : TrunkId) (v : Nat) : (Item.portAdmin t.port).writeRow v =
    if v = 1 then .writeTrunkAdminEnabled else if v = 0 then .writeTrunkAdminDisabled else .writeItem := by
  simp only [Item.writeRow, side_trunk]

/-- Log 29: every item without a row of its own is written in the WRITE_ITEM row. -/
theorem writeRow_other {i : Item} (v : Nat) (notAdmin : ∀ p, i ≠ .portAdmin p) (notRetReserve : i ≠ .retReserve)
    (notReserve : ∀ q, i ≠ .queueReserve q) (notRetCap : i ≠ .retCap) (notCap : ∀ q, i ≠ .queueCap q)
    (notLowWater : i ≠ .poolLowWater) : i.writeRow v = .writeItem := by
  cases i with
  | portAdmin p => exact absurd rfl (notAdmin p)
  | retReserve => exact absurd rfl notRetReserve
  | queueReserve q => exact absurd rfl (notReserve q)
  | retCap => exact absurd rfl notRetCap
  | queueCap q => exact absurd rfl (notCap q)
  | poolLowWater => exact absurd rfl notLowWater
  | _ => rfl

/-- Log 29: the seven rows that take a WRITE_ITEM. -/
def RequestRow.writes (row : RequestRow) : Prop :=
  row = .writeItem ∨ row = .writeEdgeAdminState ∨ row = .writeTrunkAdminEnabled ∨ row = .writeTrunkAdminDisabled ∨
    row = .writeReserve ∨ row = .writeCap ∨ row = .writePoolLowWater

/-- R159: the seven rows have one body. -/
theorem exec_writes {row : RequestRow} (writes : row.writes) (s : State) :
    exec row.instr s = live s (s.takeRequest row writeItemBody) := by
  rcases writes with rfl | rfl | rfl | rfl | rfl | rfl | rfl <;> rfl

theorem writes_ne_restart {row : RequestRow} (writes : row.writes) : row ≠ .restart := by
  rintro rfl
  simp [RequestRow.writes] at writes

section
variable {s : State} {r : Request} {rest : List Request} (admits : s.admits r rest .writeItem)
include admits

/-- R140, R159: the answer of the row of a WRITE_ITEM, by the outcome of the body. -/
theorem exec_writeRow (writes : r.row.writes) {u : State} {st : Status}
    (outcome : writeItemBody (s.taken r rest) r = (u, .refuse st)) :
    exec r.row.instr s = .next (u.answered r st []) := by
  rw [exec_writes writes]
  exact row_answers_of_body admits rfl (writes_ne_restart writes) outcome

theorem exec_writeItem_unnamed (unnamed : r.item = none) :
    exec .writeItem s = .next ((s.taken r rest).answered r .badIndex []) := by
  have own : r.row = .writeItem := row_writeItem_refused (kind_of_admits admits) (.inr unnamed)
  have refused : writeItemBody (s.taken r rest) r = (s.taken r rest, .refuse .badIndex) := by
    rw [writeItemBody, unnamed]
  have answered := exec_writeRow admits (own ▸ .inl rfl) refused
  rwa [own] at answered

theorem exec_writeItem_named {i : Item} (named : r.item = some i) (writes : r.row.writes) :
    exec r.row.instr s = .next (((s.taken r rest).writeItem i r.value).1.answered r
      ((s.taken r rest).writeItem i r.value).2 []) :=
  exec_writeRow admits writes (by rw [writeItemBody, named])
end

/-! ### The checks of a write -/

section
variable (s t : State)

/-- R159, step 3: a range as a proposition. -/
theorem writeIf_eq {inRange : Bool} {p : Prop} [Decidable p] (range : inRange = true ↔ p) :
    writeIf s inRange t = if p then (t, .ok) else (s, .badValue) := by
  simp only [writeIf, range]

/-- R159, steps 3 and 4: a range and a state as propositions. -/
theorem writeIn_eq {inRange allowed : Bool} {p q : Prop} [Decidable p] [Decidable q] (range : inRange = true ↔ p)
    (state : allowed = true ↔ q) :
    writeIn s inRange allowed t = if ¬ p then (s, .badValue) else if ¬ q then (s, .wrongState) else (t, .ok) := by
  simp only [writeIn, ← range, ← state, Bool.not_eq_true', Bool.not_eq_true]

theorem isOff_iff (q : QueueId) : s.isOff q = true ↔ (s.queue q).state = .off := beq_iff_eq
end

/-- R160: the items that can only be read. -/
theorem writeItem_readOnly {i : Item} (s : State) (v : Nat) (readOnly :
    i ∈ [Item.ownAddress, .lastResetCause, .freeCells, .freeDescriptors, .generation, .activeBank, .syncState,
      .timestamp, .recordsLost] ∨ (∃ p, i = .portLink p) ∨ (∃ t, i = .trunkState t) ∨ (∃ q, i = .queueState q)) :
    s.writeItem i v = (s, .badIndex) := by
  rcases readOnly with global | ⟨p, rfl⟩ | ⟨t, rfl⟩ | ⟨q, rfl⟩
  · fin_cases global <;> rfl
  all_goals rfl

/-! ### Writes of the steering unit and of a queue -/

section
variable (s : State) {v : Nat}

/-- R45, R160: the default action. -/
theorem writeItem_defaultAction (v : Nat) : s.writeItem .defaultAction v =
    (if v = 0 then ({ s with steer := { s.steer with defaultAction := .discard } }, .ok)
      else if v = 1 then ({ s with steer := { s.steer with defaultAction := .toQueue } }, .ok) else (s, .badValue)) := by
  obtain rfl | rfl | above : v = 0 ∨ v = 1 ∨ 1 < v := by omega
  · rfl
  · rfl
  · simp only [State.writeItem, actionOf_none above]
    rw [if_neg (by omega), if_neg (by omega)]

theorem writeItem_defaultQueue_badValue (above : 16 ≤ v) : s.writeItem .defaultQueue v = (s, .badValue) := by
  simp only [State.writeItem, index_none above]

theorem writeItem_defaultQueue_ok (q : QueueId) (names : v = q.val) : s.writeItem .defaultQueue v =
    ({ s with steer := { s.steer with defaultQueue := q } }, .ok) := by
  simp only [State.writeItem, index_of_eq names]
  rfl

variable (q : QueueId)

/-- R74: only the numbers 8 to 11 name a trunk port. -/
theorem writeItem_queueTrunk_badValue (bad : v < 8 ∨ 12 ≤ v) : s.writeItem (.queueTrunk q) v = (s, .badValue) := by
  rcases bad with below | above
  · have first : index? 4 (v - 8) = some 0 := index_of_eq (by simp; omega)
    have outside : decide (8 ≤ v) = false := decide_eq_false (by omega)
    simp only [State.writeItem, first, outside]
    rfl
  · simp only [State.writeItem, index_none (show 4 ≤ v - 8 by omega)]

theorem writeItem_queueTrunk (t : TrunkId) (names : v = 8 + t.val) : s.writeItem (.queueTrunk q) v =
    (if (s.queue q).state ≠ .off then (s, .wrongState) else (s.modQueue q fun u => { u with trunk := t }, .ok)) := by
  have trunk : index? 4 (v - 8) = some t := index_of_eq (by omega)
  have inRange : 8 ≤ v := by omega
  simp only [State.writeItem, trunk]
  rw [writeIn_eq s _ decide_eq_true_iff (isOff_iff s q), if_neg (not_not.2 inRange)]

theorem writeItem_queuePriority_badValue (above : 4 ≤ v) : s.writeItem (.queuePriority q) v = (s, .badValue) := by
  simp only [State.writeItem, index_none above]

theorem writeItem_queuePriority_ok (l : Fin 4) (names : v = l.val) : s.writeItem (.queuePriority q) v =
    (s.modQueue q fun u => { u with priority := l }, .ok) := by
  simp only [State.writeItem, index_of_eq names]

theorem writeItem_queueProfile_badValue (above : 8 ≤ v) : s.writeItem (.queueProfile q) v = (s, .badValue) := by
  simp only [State.writeItem, index_none above]

theorem writeItem_queueProfile (f : ProfileId) (names : v = f.val) : s.writeItem (.queueProfile q) v =
    (if (s.queue q).state ≠ .off then (s, .wrongState) else (s.modQueue q fun u => { u with profile := f }, .ok)) := by
  simp only [State.writeItem, index_of_eq names]
  rw [writeIn_eq s _ (iff_of_true rfl trivial) (isOff_iff s q), if_neg (not_not.2 trivial)]
end

/-- Settles O41: the names, the rows, the answer by the body that the seven rows share, and each item by its checks. -/
theorem writeItemChecksAndWrites : Obligations.WriteItemChecksAndWrites := by
  refine ⟨rfl, fun p => ?portNames, fun t => ?trunkNames, fun q => ?queueNames, fun f => ?profileNames,
    writeRow_edgeAdmin, fun t v => ?trunkRows, fun i v => ?itemRows,
    fun s r rest admits => ⟨exec_writeItem_unnamed admits, ?named⟩, fun s i v => writeItem_readOnly s v,
    fun s v => ?globalItems, fun s t v => ?trunkItems, fun s q v => ?queueItems, fun s f v => ?profileItems⟩
  case portNames => simp [ofName_port, Item.ofPort]
  case trunkNames => simp [ofName_trunk, Item.ofPort]
  case queueNames => simp [ofName_queue, Item.ofQueue]
  case profileNames => simp [ofName_profile, Item.ofProfile]
  case trunkRows =>
    rw [writeRow_trunkAdmin]
    refine ⟨fun one => if_pos one, ?_, fun above => ?_⟩
    · rintro rfl
      rfl
    · rw [if_neg (by omega), if_neg (by omega)]
  case itemRows =>
    refine ⟨?_, ?_, ?_, writeRow_other v⟩
    · rintro (rfl | ⟨q, rfl⟩) <;> rfl
    · rintro (rfl | ⟨q, rfl⟩) <;> rfl
    · rintro rfl
      rfl
  case named =>
    rintro i row named rfl writes
    exact exec_writeItem_named admits named writes
  case globalItems =>
    exact ⟨writeItem_defaultAction s v, writeItem_defaultQueue_badValue s, writeItem_defaultQueue_ok s,
      writeIf_eq s _ (by simp), writeIf_eq s _ (by simp)⟩
  case trunkItems =>
    exact ⟨writeIf_eq s _ (by simp), writeIf_eq s _ (by simp), writeIn_eq s _ (by simp) beq_iff_eq,
      writeIf_eq s _ (by simp), writeIf_eq s _ (by simp), writeIf_eq s _ (by simp)⟩
  case queueItems =>
    exact ⟨writeItem_queueTrunk_badValue s q, writeItem_queueTrunk s q, writeItem_queuePriority_badValue s q,
      writeItem_queuePriority_ok s q, writeItem_queueProfile_badValue s q, writeItem_queueProfile s q,
      writeIf_eq s _ (by simp)⟩
  case profileItems =>
    exact ⟨writeIf_eq s _ (by simp [and_assoc]), writeIf_eq s _ (by simp), writeIf_eq s _ (by simp)⟩

end Sys2Proof.Machine
end


section
/-! SUPPORT. The cell pool as an account book (R58, R60, R61, R64, R65, R69): what holds of the pool alone whatever is stored,
and that every grant, release and write of the pool keeps it. -/

namespace Sys2Proof.Tab
variable {α : Type} {n : Nat}

theorem sum_map_list (t : Tab α n) (f : α → Nat) : (t.list.map f).sum = ∑ i, f (t.get i) := by
  rw [list_eq_map_get, List.map_map, Fin.sum_univ_def]
  rfl

end Sys2Proof.Tab

namespace Sys2Proof.Machine

/-! ### Sums in which one place changes -/

/-- Two sums that agree at every place but one differ by what stands there. -/
theorem sum_change {n : Nat} {f g : Fin n → Nat} (i : Fin n) (same : ∀ j, j ≠ i → f j = g j) :
    (∑ j, f j) + g i = (∑ j, g j) + f i := by
  have others : ∑ j ∈ Finset.univ.erase i, f j = ∑ j ∈ Finset.univ.erase i, g j :=
    Finset.sum_congr rfl fun j hj => same j (Finset.ne_of_mem_erase hj)
  rw [← Finset.add_sum_erase _ f (Finset.mem_univ i), ← Finset.add_sum_erase _ g (Finset.mem_univ i), others]
  omega

section
variable (p : Pool)

theorem unusedSum_accounts : p.unusedSum = ∑ a, (p.accounts.get a).unused := p.accounts.sum_map_list _
theorem reserveSum_accounts : p.reserveSum = ∑ a, (p.accounts.get a).reserve := p.accounts.sum_map_list _
theorem inUseSum_accounts : p.inUseSum = ∑ a, (p.accounts.get a).inUse := p.accounts.sum_map_list _
end

theorem unused_le_unusedSum (p : Pool) (a : AcctId) : (p.accounts.get a).unused ≤ p.unusedSum := by
  rw [unusedSum_accounts]
  exact Finset.single_le_sum (f := fun j => (p.accounts.get j).unused) (fun _ _ => Nat.zero_le _) (Finset.mem_univ a)

/-! ### The pool alone -/

/-- R58, R60, R61, R64, R65: what `CellsOk` and `PoolOk` say of the pool alone, but for the monitor. -/
structure Pool.Sound (p : Pool) : Prop where
  cells : p.freeCells + p.inUseSum = 2048
  caps : ∀ a, (p.accounts.get a).inUse ≤ (p.accounts.get a).cap ∧ (p.accounts.get a).reserve ≤ (p.accounts.get a).cap
  covered : p.unusedSum ≤ p.freeCells
  reserves : p.reserveSum ≤ 1024
  lowWater : 16 ≤ p.lowWater ∧ p.lowWater ≤ 1024

/-- R69: the monitor stands where its table leaves it. -/
def Pool.Monitored (p : Pool) : Prop :=
  if p.low then p.freeCells < p.lowWater + 64 else p.lowWater ≤ p.freeCells

theorem poolOk_iff (p : Pool) : p.freeCells + p.inUseSum = 2048 ∧ PoolOk p ↔ p.Sound ∧ p.Monitored := by
  constructor
  · rintro ⟨cells, caps, covered, reserves, low, high, monitored⟩
    exact ⟨⟨cells, caps, covered, reserves, low, high⟩, monitored⟩
  · rintro ⟨⟨cells, caps, covered, reserves, low, high⟩, monitored⟩
    exact ⟨cells, caps, covered, reserves, low, high, monitored⟩

/-- R69: a comparison leaves the monitor where its table says, wherever it stood. -/
theorem monitor_monitored (s : State) : s.monitor.pool.Monitored := by
  unfold Pool.Monitored
  rw [monitor_low, monitor_freeCells, monitor_lowWater]
  cases low : s.pool.low
  · by_cases below : s.pool.freeCells < s.pool.lowWater
    · simp [below]
      omega
    · simpa [below] using Nat.not_lt.1 below
  · by_cases below : s.pool.freeCells < s.pool.lowWater + 64
    · simp [below]
    · simp [below]
      omega

namespace Pool.Sound
variable {p r : Pool}

/-- The monitor state and the free descriptors do not matter. -/
theorem congr (h : p.Sound) (freeCells : r.freeCells = p.freeCells) (accounts : r.accounts = p.accounts)
    (lowWater : r.lowWater = p.lowWater) : r.Sound where
  cells := by rw [freeCells, Pool.inUseSum, accounts]; exact h.cells
  caps := by rw [accounts]; exact h.caps
  covered := by rw [freeCells, Pool.unusedSum, accounts]; exact h.covered
  reserves := by rw [Pool.reserveSum, accounts]; exact h.reserves
  lowWater := by rw [lowWater]; exact h.lowWater

/-- One account changes, and the free cells with it. -/
theorem change (h : p.Sound) (a : AcctId) {c : Account} (accounts : r.accounts = p.accounts.set a c)
    (lowWater : r.lowWater = p.lowWater) (cells : r.freeCells + c.inUse = p.freeCells + (p.accounts.get a).inUse)
    (caps : c.inUse ≤ c.cap ∧ c.reserve ≤ c.cap)
    (covered : p.unusedSum + c.unused ≤ r.freeCells + (p.accounts.get a).unused)
    (reserves : p.reserveSum + c.reserve ≤ 1024 + (p.accounts.get a).reserve) : r.Sound := by
  have at_a : r.accounts.get a = c := by rw [accounts, Tab.get_set_self]
  have other : ∀ j, j ≠ a → r.accounts.get j = p.accounts.get j := fun j hj => by rw [accounts, Tab.get_set_ne _ _ hj]
  have change : ∀ f : Account → Nat, (∑ j, f (r.accounts.get j)) + f (p.accounts.get a) =
      (∑ j, f (p.accounts.get j)) + f c := fun f => by
    rw [sum_change a fun j hj => congrArg f (other j hj), at_a]
  have inUse := change Account.inUse
  have unused := change Account.unused
  have reserve := change Account.reserve
  rw [← inUseSum_accounts, ← inUseSum_accounts] at inUse
  rw [← unusedSum_accounts, ← unusedSum_accounts] at unused
  rw [← reserveSum_accounts, ← reserveSum_accounts] at reserve
  have balance := h.cells
  refine ⟨by omega, fun j => ?_, by omega, by omega, lowWater ▸ h.lowWater⟩
  by_cases hj : j = a
  · rwa [hj, at_a]
  · rw [other j hj]
    exact h.caps j

/-- R62: cells that the account was charged with come back. -/
theorem give (h : p.Sound) {a : AcctId} {n : Nat} (charged : n ≤ (p.accounts.get a).inUse) (d : Nat) :
    (p.give a n d).Sound := by
  have caps := h.caps a
  have covered := h.covered
  have reserves := h.reserves
  refine h.change a rfl rfl ?_ ?_ ?_ (Nat.add_le_add_right reserves _)
  all_goals simp only [Pool.give, Account.unused]
  · omega
  · omega
  · omega

/-- R62: the same of several batches, each charged to its own queue. -/
theorem giveAll (h : p.Sound) {gone : List Batch} (charged : ∀ q : QueueId,
    ((gone.filter fun b => b.queue == q).map Batch.cells).sum ≤ (p.accounts.get q.acct).inUse) :
    (gone.foldl (fun acc b => acc.give b.queue.acct b.cells 1) p).Sound := by
  induction gone generalizing p with
  | nil => exact h
  | cons b rest ih =>
    refine ih (h.give ?_ 1) fun q => ?_
    · have first := charged b.queue
      simp at first
      omega
    · have all := charged q
      by_cases own : b.queue = q
      · subst own
        simp at all
        simp [Pool.give]
        omega
      · have other : q.acct ≠ b.queue.acct := fun e => own (Fin.ext (congrArg Fin.val e).symm)
        simpa [Pool.give, other, own] using all

/-- R61: the three tests grant only what leaves the caps and the unused reserves of the others untouched. -/
theorem take (h : p.Sound) {a : AcctId} {n : Nat} {d : Bool} (granted : p.test a n d = none) : (p.take a n d).Sound := by
  have caps := h.caps a
  have covered := h.covered
  have unused := unused_le_unusedSum p a
  have reserves := h.reserves
  unfold Pool.test at granted
  split at granted
  · cases granted
  · split at granted
    · cases granted
    · simp only [Account.unused] at *
      refine h.change a rfl rfl ?_ ?_ ?_ (Nat.add_le_add_right reserves _)
      all_goals simp only [Pool.take, Account.unused]
      · omega
      · omega
      · omega

/-- R64: a reserve that passes the tests. -/
theorem withReserve (h : p.Sound) {a : AcctId} {n : Nat} {blocked : Bool} (passes : p.reserveTest a n blocked = .ok) :
    ({ p with accounts := p.accounts.upd a fun c => c.withReserve n } : Pool).Sound := by
  have caps := h.caps a
  unfold Pool.reserveTest at passes
  dsimp only at passes
  (repeat' split at passes) <;> cases passes
  rename_i belowCap belowSum covered
  refine h.change a rfl rfl rfl ⟨caps.1, Nat.not_lt.1 belowCap⟩ ?_ ?_
  · dsimp only
    omega
  · simp only [Config.reserveSumMax, Account.withReserve] at *
    omega

/-- R65: a cap that passes the tests. -/
theorem withCap (h : p.Sound) {a : AcctId} {n : Nat} {blocked : Bool} (passes : p.capTest a n blocked = .ok) :
    ({ p with accounts := p.accounts.upd a fun c => { c with cap := n } } : Pool).Sound := by
  unfold Pool.capTest at passes
  (repeat' split at passes) <;> cases passes
  rename_i aboveReserve aboveInUse
  exact h.change a rfl rfl rfl ⟨Nat.not_lt.1 aboveInUse, Nat.not_lt.1 aboveReserve⟩ (Nat.add_le_add_right h.covered _)
    (Nat.add_le_add_right h.reserves _)

/-- R70: a low-water value in range. -/
theorem withLowWater (h : p.Sound) {v : Nat} (inRange : 16 ≤ v ∧ v ≤ 1024) : ({ p with lowWater := v } : Pool).Sound :=
  { h with lowWater := inRange }

theorem reset : Pool.reset.Sound where
  cells := by decide
  caps := by decide
  covered := by decide
  reserves := by decide
  lowWater := by decide

end Pool.Sound
end Sys2Proof.Machine
end

section
/-! SUPPORT. The storage invariant, queue by queue (R58, R60, R66, R73, R76, R86, R91). -/

namespace Sys2Proof.Machine

/-! ### What a queue is charged with -/

/-- The batches of queue `q` in the window of trunk port `i`. -/
def State.windowed (s : State) (q : QueueId) (i : TrunkId) : List Batch := ((s.trunk i).bundlesOf q).map Bundle.batch

/-- The batches of queue `q` in its open batch, its ready list and the window of its trunk port. -/
def State.heldBy (s : State) (q : QueueId) : List Batch := (s.queue q).held ++ s.windowed q (s.queue q).trunk

/-- R73, R76, R82, R86, R91: what `State.queueOk` says of one queue, but for the drain completion test; `sent` are its batches
in each window. -/
structure Queue.Holds (u : Queue) (q : QueueId) (sent : TrunkId → List Batch) : Prop where
  place : ∀ i, i ≠ u.trunk → sent i = []
  outstanding : u.outstanding = (sent u.trunk).length
  own : ∀ b ∈ u.held, b.queue = q
  off : u.state = .off → u.held = [] ∧ sent u.trunk = []
  drain : u.state ≠ .halting → u.drain = none
  halting : u.state = .halting → u.openBatch = none ∧ u.drain.isSome = true

/-- R86: the drain completion test of a HALTING queue fails. -/
def Queue.Undrained (u : Queue) : Prop := u.state = .halting → ¬ (u.ready = [] ∧ u.outstanding = 0)

theorem windowed_eq (s : State) (q : QueueId) (i : TrunkId) :
    s.windowed q i = ((s.trunk i).bundles.map Bundle.batch).filter fun b => b.queue == q := by
  rw [List.filter_map]
  rfl

theorem queue_of_mem_windowed {s : State} {q : QueueId} {i : TrunkId} {b : Batch} (h : b ∈ s.windowed q i) : b.queue = q := by
  rw [windowed_eq] at h
  simpa using (List.mem_filter.1 h).2

/-- Lists of which all but one are empty. -/
theorem flatMap_of_place {f : TrunkId → List Batch} {t : TrunkId} (place : ∀ i, i ≠ t → f i = []) :
    (List.finRange 4).flatMap f = f t := by
  have each : ∀ i, f i = if i = t then f t else [] := fun i => by
    split
    · rename_i here
      rw [here]
    · rename_i elsewhere
      exact place i elsewhere
  have all : List.finRange 4 = [0, 1, 2, 3] := rfl
  rw [all]
  simp only [List.flatMap_cons, List.flatMap_nil]
  rw [each 0, each 1, each 2, each 3]
  revert t
  intro t _ _
  fin_cases t <;> simp

section
variable {s : State} {q : QueueId}

theorem bundlesOf_map_batch (s : State) (q : QueueId) :
    (s.bundlesOf q).map Bundle.batch = (List.finRange 4).flatMap (s.windowed q) := by
  rw [State.bundlesOf, List.map_flatMap]
  rfl

theorem batchesOf_eq (place : ∀ i, i ≠ (s.queue q).trunk → s.windowed q i = []) : s.batchesOf q = s.heldBy q := by
  rw [State.batchesOf, bundlesOf_map_batch, flatMap_of_place place, State.heldBy]

theorem bundlesOf_length (place : ∀ i, i ≠ (s.queue q).trunk → s.windowed q i = []) :
    (s.bundlesOf q).length = (s.windowed q (s.queue q).trunk).length := by
  rw [← List.length_map Bundle.batch, bundlesOf_map_batch, flatMap_of_place place]

theorem place_iff : (∀ t : TrunkId, (s.trunk t).bundlesOf q ≠ [] → (s.queue q).trunk = t) ↔
    ∀ i, i ≠ (s.queue q).trunk → s.windowed q i = [] := by
  simp only [State.windowed, List.map_eq_nil_iff]
  exact forall_congr' fun i => ⟨fun h elsewhere => not_not.1 fun some => elsewhere (h some).symm,
    fun h some => not_not.1 fun elsewhere => some (h fun e => elsewhere e.symm)⟩

theorem queueOk_iff : s.queueOk q ↔ (s.queue q).Holds q (s.windowed q) ∧ (s.queue q).Undrained := by
  unfold State.queueOk
  rw [place_iff]
  constructor
  · rintro ⟨outstanding, place, own, mode⟩
    rw [bundlesOf_length place] at outstanding
    rw [batchesOf_eq place] at own mode
    refine ⟨⟨place, outstanding, fun b hb => own b (List.mem_append_left _ hb), fun off => ?_, fun other => ?_,
      fun halting => ?_⟩, fun halting => ?_⟩
    · rw [off] at mode
      exact List.append_eq_nil_iff.1 mode.1
    · cases state : (s.queue q).state with
      | halting => exact absurd state other
      | off => rw [state] at mode; exact mode.2
      | active => rw [state] at mode; exact mode
    · rw [halting] at mode
      exact ⟨mode.1, mode.2.1⟩
    · rw [halting] at mode
      exact mode.2.2
  · rintro ⟨⟨place, outstanding, own, off, drain, halting⟩, undrained⟩
    rw [bundlesOf_length place, batchesOf_eq place]
    refine ⟨outstanding, place, fun b hb => (List.mem_append.1 hb).elim (own b) queue_of_mem_windowed, ?_⟩
    cases state : (s.queue q).state with
    | off => exact ⟨List.append_eq_nil_iff.2 (off state), drain (by simp [state])⟩
    | active => exact drain (by simp [state])
    | halting => exact ⟨(halting state).1, (halting state).2, undrained state⟩
end

/-! ### The whole part -/

/-- R58, R60, R64 to R66, R69: what `StorageInv` says, but for the drain completion tests. -/
structure Ledger (s : State) : Prop where
  pool : s.pool.Sound
  monitored : s.pool.Monitored
  cells : ∀ q : QueueId, (s.account q.acct).inUse = ((s.heldBy q).map Batch.cells).sum
  returns : (s.account retAcct).inUse = s.returnsHeld
  descriptors : s.pool.freeDescriptors + ∑ q, (s.heldBy q).length = 256
  queue : ∀ q, (s.queue q).Holds q (s.windowed q)

/-- `StorageInv`, with the drain completion tests told apart. -/
structure Stored (s : State) : Prop where
  ledger : Ledger s
  undrained : ∀ q, (s.queue q).Undrained

theorem storageInv_iff (s : State) : StorageInv s ↔ Stored s := by
  constructor
  · rintro ⟨⟨cells, returns, total⟩, descriptors, poolOk, queues⟩
    have holds : ∀ q, (s.queue q).Holds q (s.windowed q) := fun q => (queueOk_iff.1 (queues q)).1
    have held : ∀ q, s.batchesOf q = s.heldBy q := fun q => batchesOf_eq (holds q).place
    obtain ⟨pool, monitored⟩ := (poolOk_iff s.pool).1 ⟨total, poolOk⟩
    refine ⟨⟨pool, monitored, fun q => held q ▸ cells q, returns, ?_, holds⟩, fun q => (queueOk_iff.1 (queues q)).2⟩
    rw [Fin.sum_univ_def]
    simpa only [DescriptorsOk, held] using descriptors
  · rintro ⟨⟨pool, monitored, cells, returns, descriptors, holds⟩, undrained⟩
    have held : ∀ q, s.batchesOf q = s.heldBy q := fun q => batchesOf_eq (holds q).place
    obtain ⟨total, poolOk⟩ := (poolOk_iff s.pool).2 ⟨pool, monitored⟩
    refine ⟨⟨fun q => (held q).symm ▸ cells q, returns, total⟩, ?_, poolOk, fun q => queueOk_iff.2 ⟨holds q, undrained q⟩⟩
    rw [Fin.sum_univ_def] at descriptors
    simpa only [DescriptorsOk, held] using descriptors

end Sys2Proof.Machine
end


section
/-! SUPPORT. What an operation has to show to keep the storage invariant: it leaves the storage alone, or it changes what one
queue holds and what its account is charged with, or the return lists, or it releases batches of any queues at once. -/

namespace Sys2Proof.Machine

/-- From `s` to `t` neither the pool nor a queue, a return list or the batches of a window change. -/
def SameStorage (s t : State) : Prop :=
  t.pool = s.pool ∧ t.queues = s.queues ∧ t.edge.returns = s.edge.returns ∧
    ∀ i, (t.trunk i).bundles.map Bundle.batch = (s.trunk i).bundles.map Bundle.batch

/-! ### Windows and accounts -/

theorem windowed_congr {s t : State} {i : TrunkId} (h : (t.trunk i).bundles.map Bundle.batch = (s.trunk i).bundles.map Bundle.batch)
    (q : QueueId) : t.windowed q i = s.windowed q i := by
  rw [windowed_eq, windowed_eq, h]

theorem windowed_of_trunks {s t : State} (h : t.trunks = s.trunks) (q : QueueId) : t.windowed q = s.windowed q :=
  funext fun i => windowed_congr (by rw [State.trunk, h]; rfl) q

theorem heldBy_congr {s t : State} {q : QueueId} (queue : t.queue q = s.queue q) (windows : t.windowed q = s.windowed q) :
    t.heldBy q = s.heldBy q := by
  rw [State.heldBy, State.heldBy, queue, windows]

theorem acct_ne {q j : QueueId} (h : j ≠ q) : j.acct ≠ q.acct := fun e => h (Fin.ext (Fin.mk.inj e))

/-! ### Releases and the pool -/

theorem release_sound {s : State} {a : AcctId} {n : Nat} (h : s.pool.Sound) (charged : n ≤ (s.account a).inUse) (d : Nat) :
    (s.release a n d).pool.Sound := by
  rw [release_pool]
  exact (h.give charged d).congr rfl rfl rfl

/-- R69, log 28: a release of no cell leaves the free cells as they were. -/
theorem release_monitored {s : State} (h : s.pool.Monitored) (a : AcctId) (n d : Nat) : (s.release a n d).pool.Monitored := by
  unfold State.release
  split
  · rename_i noCell
    simpa [Pool.Monitored, Pool.give, noCell] using h
  · exact monitor_monitored _

theorem releaseBatches_monitored {s : State} (h : s.pool.Monitored) (gone : List Batch) :
    (s.releaseBatches gone).pool.Monitored := by
  rw [releaseBatches_eq]
  split
  · rename_i noCell
    unfold Pool.Monitored
    rw [given_freeCells, given_lowWater, given_low, noCell]
    exact h
  · exact monitor_monitored _

/-! ### One change at a time -/

namespace Ledger
variable {s t : State}

/-- One queue and its account change. -/
theorem of_queue (h : Ledger s) (q : QueueId) (queues : ∀ j, j ≠ q → t.queue j = s.queue j)
    (windows : ∀ j, j ≠ q → t.windowed j = s.windowed j) (returns : t.edge.returns = s.edge.returns) (pool : t.pool.Sound)
    (monitored : t.pool.Monitored) (accounts : ∀ a, a ≠ q.acct → t.account a = s.account a)
    (cells : (t.account q.acct).inUse = ((t.heldBy q).map Batch.cells).sum)
    (descriptors : t.pool.freeDescriptors + (t.heldBy q).length = s.pool.freeDescriptors + (s.heldBy q).length)
    (queue : (t.queue q).Holds q (t.windowed q)) : Ledger t where
  pool := pool
  monitored := monitored
  cells j := by
    by_cases here : j = q
    · rwa [here]
    · rw [accounts _ (acct_ne here), heldBy_congr (queues j here) (windows j here)]
      exact h.cells j
  returns := by
    rw [accounts _ (acct_ne_retAcct q).symm, State.returnsHeld, returns]
    exact h.returns
  descriptors := by
    have total := h.descriptors
    have change : ∑ j : QueueId, (t.heldBy j).length + (s.heldBy q).length =
        ∑ j : QueueId, (s.heldBy j).length + (t.heldBy q).length :=
      sum_change (f := fun j => (t.heldBy j).length) (g := fun j => (s.heldBy j).length) q
        fun j other => congrArg List.length (heldBy_congr (queues j other) (windows j other))
    omega
  queue j := by
    by_cases here : j = q
    · rwa [here]
    · rw [queues j here, windows j here]
      exact h.queue j

/-- One queue holds the same cells in as many batches. -/
theorem of_held (h : Ledger s) (q : QueueId) (queues : ∀ j, j ≠ q → t.queue j = s.queue j)
    (windows : ∀ j, j ≠ q → t.windowed j = s.windowed j) (returns : t.edge.returns = s.edge.returns) (pool : t.pool = s.pool)
    (held : ((t.heldBy q).map Batch.cells).Perm ((s.heldBy q).map Batch.cells)) (queue : (t.queue q).Holds q (t.windowed q)) :
    Ledger t := by
  have accounts : ∀ a, t.account a = s.account a := fun a => by rw [State.account, pool]; rfl
  refine h.of_queue q queues windows returns (pool ▸ h.pool) (pool ▸ h.monitored) (fun a _ => accounts a) ?_ ?_ queue
  · rw [accounts, h.cells, held.sum_eq]
  · have length := held.length_eq
    rw [List.length_map, List.length_map] at length
    rw [pool, length]

/-- R62: one queue's batches `gone` are released. -/
theorem of_release (h : Ledger s) (q : QueueId) (gone : List Batch)
    (pool : t.pool = (s.release q.acct (gone.map Batch.cells).sum gone.length).pool)
    (queues : ∀ j, j ≠ q → t.queue j = s.queue j) (windows : ∀ j, j ≠ q → t.windowed j = s.windowed j)
    (returns : t.edge.returns = s.edge.returns) (held : (s.heldBy q).Perm (gone ++ t.heldBy q))
    (queue : (t.queue q).Holds q (t.windowed q)) : Ledger t := by
  have account : ∀ a, t.account a = (s.release q.acct (gone.map Batch.cells).sum gone.length).account a := fun a => by
    rw [State.account, pool]
    rfl
  have charged := h.cells q
  have cells := (held.map Batch.cells).sum_eq
  have length := held.length_eq
  simp only [List.map_append, List.sum_append, List.length_append] at cells length
  refine h.of_queue q queues windows returns ?_ ?_ (fun a other => ?_) ?_ ?_ queue
  · rw [pool]
    exact release_sound h.pool (by omega) _
  · rw [pool]
    exact release_monitored h.monitored _ _ _
  · rw [account, release_account_ne _ _ _ other]
  · rw [account, release_account_self]
    dsimp only
    omega
  · rw [pool, release_freeDescriptors]
    omega

/-- R62: batches of any queues are released at once. -/
theorem of_releaseBatches (h : Ledger s) (gone : List Batch) (pool : t.pool = (s.releaseBatches gone).pool)
    (returns : t.edge.returns = s.edge.returns)
    (held : ∀ q, (s.heldBy q).Perm ((gone.filter fun b => b.queue == q) ++ t.heldBy q))
    (queue : ∀ q, (t.queue q).Holds q (t.windowed q)) : Ledger t := by
  have account : ∀ a, t.account a = (s.releaseBatches gone).account a := fun a => by
    rw [State.account, pool]
    rfl
  have cells : ∀ q, ((s.heldBy q).map Batch.cells).sum =
      ((gone.filter fun b => b.queue == q).map Batch.cells).sum + ((t.heldBy q).map Batch.cells).sum := fun q => by
    rw [((held q).map Batch.cells).sum_eq, List.map_append, List.sum_append]
  refine ⟨?_, ?_, fun q => ?_, ?_, ?_, queue⟩
  · rw [pool, releaseBatches_pool]
    refine (h.pool.giveAll (gone := gone) fun q => ?_).congr rfl rfl rfl
    exact ((Nat.le_add_right _ _).trans_eq (cells q).symm).trans_eq (h.cells q).symm
  · rw [pool]
    exact releaseBatches_monitored h.monitored gone
  · have charged := h.cells q
    have split := cells q
    rw [account, releaseBatches_account]
    dsimp only
    omega
  · rw [account, releaseBatches_retAccount, State.returnsHeld, returns]
    exact h.returns
  · have lengths : ∀ q, (s.heldBy q).length = (gone.filter fun b => b.queue == q).length + (t.heldBy q).length := fun q => by
      rw [(held q).length_eq, List.length_append]
    have all := sum_over_queues (fun _ => 1) gone
    simp only [List.map_const', List.sum_replicate, smul_eq_mul, mul_one] at all
    have total := h.descriptors
    simp only [lengths, Finset.sum_add_distrib, all] at total
    obtain ⟨-, descriptors, -⟩ := releaseBatches_spec s gone
    rw [pool, descriptors]
    omega

/-- The pool changes, or the return lists with the account RET; what the queues hold does not. -/
theorem of_pool (h : Ledger s) (queue : ∀ q, t.queue q = s.queue q) (windows : ∀ q, t.windowed q = s.windowed q)
    (pool : t.pool.Sound) (monitored : t.pool.Monitored)
    (inUse : ∀ q : QueueId, (t.account q.acct).inUse = (s.account q.acct).inUse)
    (returns : (t.account retAcct).inUse = t.returnsHeld) (descriptors : t.pool.freeDescriptors = s.pool.freeDescriptors) :
    Ledger t := by
  have held : ∀ q, t.heldBy q = s.heldBy q := fun q => heldBy_congr (queue q) (windows q)
  refine ⟨pool, monitored, fun q => ?_, returns, ?_, fun q => ?_⟩
  · rw [inUse, held]
    exact h.cells q
  · simp only [held, descriptors]
    exact h.descriptors
  · rw [queue, windows]
    exact h.queue q

theorem same (h : Ledger s) (u : SameStorage s t) : Ledger t := by
  obtain ⟨pool, queues, returns, windows⟩ := u
  have account : ∀ a, t.account a = s.account a := fun a => by rw [State.account, pool]; rfl
  refine h.of_pool (fun q => by rw [State.queue, queues]; rfl) (fun q => funext fun i => windowed_congr (windows i) q)
    (pool ▸ h.pool) (pool ▸ h.monitored) (fun q => by rw [account]) ?_ (by rw [pool])
  rw [account, State.returnsHeld, returns]
  exact h.returns

/-- R86: a queue that meets the drain completion test holds nothing, and one that does not is not drained. -/
theorem drained_iff (h : Ledger s) (q : QueueId) : s.drained q = true ↔
    (s.queue q).state = .halting ∧ (s.queue q).ready = [] ∧ (s.queue q).outstanding = 0 := by
  simp only [State.drained, Bool.and_eq_true, beq_iff_eq, List.isEmpty_iff]
  refine ⟨fun ⟨⟨⟨halting, ready⟩, empty⟩, _⟩ => ⟨halting, ready, empty⟩, fun ⟨halting, ready, empty⟩ =>
    ⟨⟨⟨halting, ready⟩, empty⟩, ?_⟩⟩
  have holds := h.queue q
  have window : s.windowed q (s.queue q).trunk = [] := List.length_eq_zero_iff.1 (holds.outstanding.symm.trans empty)
  rw [h.cells, State.heldBy, window, Queue.held, (holds.halting halting).1, ready]
  rfl

theorem holds_turnedOff {u : Queue} {q : QueueId} {w : TrunkId → List Batch} (h : u.Holds q w) (halting : u.state = .halting)
    (ready : u.ready = []) (outstanding : u.outstanding = 0) : u.turnedOff.Holds q w where
  place := h.place
  outstanding := h.outstanding
  own := h.own
  off _ := ⟨by simp [Queue.held, Queue.turnedOff, (h.halting halting).1, ready],
    List.length_eq_zero_iff.1 (h.outstanding.symm.trans outstanding)⟩
  drain _ := rfl
  halting off := nomatch off

end Ledger
end Sys2Proof.Machine
end


section
/-! SUPPORT. The operations of the arbiter, the queue unit and the delivery window keep the storage invariant (R59, R61, R62, R78
to R80, R85 to R89, R111, R125, R130). -/

namespace Sys2Proof.Machine

/-! ### What leaves the storage alone -/

theorem sameStorage_modTrunk (s : State) {t : TrunkId} {f : Trunk → Trunk}
    (batches : (f (s.trunk t)).bundles.map Bundle.batch = (s.trunk t).bundles.map Bundle.batch) :
    SameStorage s (s.modTrunk t f) := by
  refine ⟨rfl, rfl, rfl, fun i => ?_⟩
  by_cases here : i = t
  · subst here
    simpa using batches
  · simp [here]

theorem updBundle_batches (k : Trunk) (seq : Byte) {f : Bundle → Bundle} (batch : ∀ b, (f b).batch = b.batch) :
    (k.updBundle seq f).bundles.map Bundle.batch = k.bundles.map Bundle.batch := by
  rw [Trunk.updBundle, List.map_map]
  refine List.map_congr_left fun b _ => ?_
  simp only [Function.comp_apply]
  split
  · exact batch b
  · rfl

theorem sameStorage_windowEmptied (s : State) (t : TrunkId) : SameStorage s (s.windowEmptied t) := by
  refine ⟨by simp, by simp, by simp, fun i => ?_⟩
  by_cases here : i = t
  · rw [here, windowEmptied_trunk_self, emptied_bundles]
  · rw [windowEmptied_trunk_ne s here]

namespace Stored
variable {s t : State}

theorem same (h : Stored s) (u : SameStorage s t) : Stored t where
  ledger := h.ledger.same u
  undrained q := by
    obtain ⟨-, queues, -, -⟩ := u
    rw [State.queue, queues]
    exact h.undrained q

/-- One queue changes, and it is not drained. -/
theorem of_ledger (h : Stored s) {q : QueueId} (ledger : Ledger t) (queues : ∀ j, j ≠ q → t.queue j = s.queue j)
    (undrained : (t.queue q).Undrained) : Stored t where
  ledger := ledger
  undrained j := by
    by_cases here : j = q
    · rwa [here]
    · rw [queues j here]
      exact h.undrained j

theorem modTrunk (h : Stored s) {t : TrunkId} {f : Trunk → Trunk}
    (batches : (f (s.trunk t)).bundles.map Bundle.batch = (s.trunk t).bundles.map Bundle.batch) : Stored (s.modTrunk t f) :=
  h.same (sameStorage_modTrunk s batches)

theorem windowEmptied (h : Stored s) (t : TrunkId) : Stored (s.windowEmptied t) := h.same (sameStorage_windowEmptied s t)
theorem raise (h : Stored s) (b : Block) (es : List Raise) : Stored (s.raise b es) := h.same (by simp [SameStorage])
theorem start (h : Stored s) (p : Port) (f : Frame) (o : WireOwner) : Stored (s.start p f o) := h.same (by simp [SameStorage])

end Stored

/-! ### Grants of the arbiter -/

theorem candidate_of_choose {s : State} {t : TrunkId} {q : QueueId} {level : Option (Fin 4)}
    (chosen : s.choose t = some (q, level)) : s.candidate t q = true := by
  unfold State.choose at chosen
  split at chosen
  · obtain ⟨l, -, found⟩ := List.exists_of_findSome?_eq_some chosen
    obtain ⟨r, first, pair⟩ := Option.map_eq_some_iff.1 found
    obtain ⟨rfl, -⟩ := Prod.mk.inj pair
    have test := List.find?_some first
    exact (Bool.and_eq_true_iff.1 test).1
  · obtain ⟨r, first, pair⟩ := Option.map_eq_some_iff.1 chosen
    obtain ⟨rfl, -⟩ := Prod.mk.inj pair
    exact List.find?_some first

theorem candidate_iff (s : State) (t : TrunkId) (q : QueueId) : s.candidate t q = true ↔
    (s.queue q).trunk = t ∧ (s.queue q).state ≠ .off ∧ (s.queue q).ready ≠ [] := by
  simp [State.candidate, and_assoc]

/-- A batch enters the window of its queue's trunk port. -/
theorem windowed_append {s u : State} {t : TrunkId} {b : Batch}
    (window : (u.trunk t).bundles.map Bundle.batch = (s.trunk t).bundles.map Bundle.batch ++ [b]) (q : QueueId) :
    u.windowed q t = s.windowed q t ++ if b.queue = q then [b] else [] := by
  rw [windowed_eq, windowed_eq, window, List.filter_append]
  by_cases own : b.queue = q <;> simp [own]

/-- R111: the head batch of a queue that holds it leaves the ready list for the window. -/
theorem Queue.Holds.grant {u : Queue} {q : QueueId} {w w' : TrunkId → List Batch} (h : u.Holds q w) {b : Batch}
    {rest : List Batch} (ready : u.ready = b :: rest) (sent : w' u.trunk = w u.trunk ++ [b])
    (others : ∀ i, i ≠ u.trunk → w' i = w i) :
    ({ u with ready := rest, outstanding := u.outstanding + 1 } : Queue).Holds q w' where
  place i hi := (others i hi).trans (h.place i hi)
  outstanding := by simp [sent, h.outstanding]
  own c hc := h.own c (by
    simp only [Queue.held, ready, List.mem_append, List.mem_cons] at hc ⊢
    tauto)
  off off := by
    have none := (h.off off).1
    simp [Queue.held, ready] at none
  drain := h.drain
  halting := h.halting

theorem Ledger.grant {s : State} (h : Ledger s) {t : TrunkId} {q : QueueId} (level : Option (Fin 4))
    (place : (s.queue q).trunk = t) {b : Batch} {rest : List Batch} (ready : (s.queue q).ready = b :: rest) :
    Ledger (s.grant t q level) := by
  subst place
  have own : b.queue = q := (h.queue q).own b (by simp [Queue.held, ready])
  have window : ((s.grant (s.queue q).trunk q level).trunk (s.queue q).trunk).bundles.map Bundle.batch =
      (s.trunk (s.queue q).trunk).bundles.map Bundle.batch ++ [b] := by
    rw [grant_trunk_self ready, Trunk.grants, List.map_append]
    rfl
  have elsewhere : ∀ j i, i ≠ (s.queue q).trunk → (s.grant (s.queue q).trunk q level).windowed j i = s.windowed j i :=
    fun j i hi => windowed_congr (by rw [grant_trunk_ne ready _ hi]) j
  have sent : (s.grant (s.queue q).trunk q level).windowed q (s.queue q).trunk = s.windowed q (s.queue q).trunk ++ [b] := by
    rw [windowed_append window, if_pos own]
  have granted : (s.grant (s.queue q).trunk q level).queue q =
      { s.queue q with ready := rest, outstanding := (s.queue q).outstanding + 1 } := by
    simp [State.grant, ready]
  refine h.of_held q (fun j other => by simp [State.grant, ready, other]) (fun j other => funext fun i => ?_) (by simp)
    (by simp) ?_ (granted ▸ (h.queue q).grant ready sent (elsewhere q))
  · by_cases here : i = (s.queue q).trunk
    · rw [here, windowed_append window, if_neg fun e => other (e.symm.trans own), List.append_nil]
    · exact elsewhere j i here
  · refine List.Perm.map _ ?_
    rw [State.heldBy, State.heldBy, granted, sent, Queue.held, Queue.held, ready]
    simp only [List.append_assoc]
    refine List.Perm.append_left _ ?_
    simpa using List.perm_append_comm (l₁ := rest ++ s.windowed q (s.queue q).trunk) (l₂ := [b])

namespace Stored
variable {s : State}

theorem grant (h : Stored s) {t : TrunkId} {q : QueueId} (level : Option (Fin 4)) (candidate : s.candidate t q = true) :
    Stored (s.grant t q level) := by
  obtain ⟨place, -, some⟩ := (candidate_iff s t q).1 candidate
  obtain ⟨b, rest, ready⟩ := List.exists_cons_of_ne_nil some
  refine h.of_ledger (q := q) (h.ledger.grant level place ready) (fun j other => by simp [State.grant, ready, other]) ?_
  simp [Queue.Undrained, State.grant, ready]

theorem resend (h : Stored s) (t : TrunkId) (b : Bundle) : Stored (s.resend t b) := by
  refine h.same ⟨by simp, by simp, by simp, fun i => ?_⟩
  by_cases here : i = t
  · rw [here, resend_trunk_self]
    exact updBundle_batches _ _ fun _ => rfl
  · rw [resend_trunk_ne s b here]

theorem grantNext (h : Stored s) (t : TrunkId) : Stored (s.grantNext t) := by
  unfold State.grantNext
  split
  · split
    · rename_i chosen
      exact h.grant _ (candidate_of_choose chosen)
    · exact h
  · exact h

theorem trunkSelect (h : Stored s) (t : TrunkId) : Stored (s.trunkSelect t) := by
  unfold State.trunkSelect
  split
  · split
    · exact h.start _ _ _
    · split
      · split
        · exact h.resend t _
        · exact h.grantNext t
      · exact h
  · exact h

theorem edgeSelect (h : Stored s) (k : EdgeId) : Stored (s.edgeSelect k) := by
  rcases edgeSelect_cases s k with idle | ⟨-, ⟨c, -, control⟩ | ⟨f, -, returned⟩⟩
  · rwa [idle]
  · exact control ▸ h.start _ _ _
  · exact returned ▸ h.start _ _ _

theorem select (h : Stored s) (p : Port) : Stored (s.select p) := by
  unfold State.select
  split
  · exact h.edgeSelect _
  · exact h.trunkSelect _

theorem offerClosed (h : Stored s) (q : QueueId) (before : Nat) : Stored (s.offerClosed q before) := by
  unfold State.offerClosed
  split
  · exact h.trunkSelect _
  · exact h

end Stored

/-! ### Batch formation -/

theorem closed_cells (b : Batch) (r : CloseReason) : (b.closed r).cells = b.cells := rfl

/-- R80: the open batch moves to the ready list. -/
theorem Queue.Holds.close {u : Queue} {q : QueueId} {w : TrunkId → List Batch} (h : u.Holds q w) {b : Batch}
    (opened : u.openBatch = some b) (r : CloseReason) :
    ({ u with openBatch := none, ready := u.ready ++ [b.closed r] } : Queue).Holds q w where
  place := h.place
  outstanding := h.outstanding
  own c hc := by
    simp only [Queue.held, Option.toList_none, List.nil_append, List.mem_append, List.mem_singleton] at hc
    rcases hc with ready | rfl
    · exact h.own c (List.mem_append_right _ ready)
    · exact h.own b (by simp [Queue.held, opened])
  off off := by
    have none := (h.off off).1
    simp [Queue.held, opened] at none
  drain := h.drain
  halting halting := ⟨rfl, (h.halting halting).2⟩

theorem Stored.closeOpen {s : State} (h : Stored s) (q : QueueId) (r : CloseReason) : Stored (s.closeOpen q r) := by
  cases opened : (s.queue q).openBatch with
  | none => rwa [closeOpen_none s r opened]
  | some b =>
    have closed : (s.closeOpen q r).queue q =
        { s.queue q with openBatch := none, ready := (s.queue q).ready ++ [b.closed r] } := by
      simp [closeOpen_some s r opened]
    have windows : ∀ j, (s.closeOpen q r).windowed j = s.windowed j := windowed_of_trunks (by simp)
    have others : ∀ j, j ≠ q → (s.closeOpen q r).queue j = s.queue j := fun j other => closeOpen_queue_ne s r other
    refine h.of_ledger (h.ledger.of_held q others (fun j _ => windows j) (by simp) (by simp) ?_ ?_) others ?_
    · rw [State.heldBy, State.heldBy, closed, windows, Queue.held, Queue.held, opened]
      simp only [List.map_append, List.map_cons, List.map_nil, closed_cells, Option.toList_none, Option.toList_some]
      exact (List.perm_append_comm (l₁ := (s.queue q).ready.map Batch.cells) (l₂ := [b.cells])).append_right _
    · rw [closed, windows]
      exact (h.ledger.queue q).close opened r
    · rw [closed]
      exact fun _ drained => by simp at drained

theorem Stored.testLimits {s : State} (h : Stored s) (q : QueueId) : Stored (s.testLimits q) := by
  unfold State.testLimits
  split
  · exact h
  · split
    · exact h.closeOpen q _
    · split
      · exact h.closeOpen q _
      · exact h

/-! ### Admission -/

section
variable {s : State} {q : QueueId} {m : Member}

/-- R78: the member joins the open batch. -/
theorem store_queue_fits (fits : (s.queue q).fits m = true) : (s.store q m).queue q = { s.queue q with
    openBatch := (s.queue q).openBatch.map fun b => { b with members := b.members ++ [m] } } := by
  rw [State.store, if_pos fits, modQueue_queue_self]

/-- R78: the open batch, if any, closes with SIZE, and another opens. -/
theorem store_queue_opens (full : (s.queue q).fits m = false) : (s.store q m).queue q = { s.queue q with
    openBatch := some (s.openingBatch q m)
    ready := (s.queue q).ready ++ (s.queue q).openBatch.toList.map fun b => b.closed .size } := by
  rw [State.store, if_neg (by simp [full]), modQueue_queue_self]
  cases opened : (s.queue q).openBatch with
  | none => simp [closeOpen_none s .size opened]
  | some b => simp [closeOpen_some s .size opened]

theorem store_queue_ne {j : QueueId} (other : j ≠ q) : (s.store q m).queue j = s.queue j := by
  unfold State.store
  split
  · simp [other]
  · simp [other, closeOpen_queue_ne]

theorem fits_iff : (s.queue q).fits m = true ↔
    ∃ b, (s.queue q).openBatch = some b ∧ b.byteSize + (6 + m.payload.length) ≤ b.threshold := by
  unfold Queue.fits
  cases (s.queue q).openBatch with
  | none => simp
  | some b =>
    refine ⟨fun fits => ⟨b, rfl, of_decide_eq_true fits⟩, ?_⟩
    rintro ⟨_, opened, fits⟩
    cases opened
    exact decide_eq_true fits

theorem cells_of_members (b : Batch) (m : Member) : ({ b with members := b.members ++ [m] } : Batch).cells =
    b.cells + m.cells := by
  simp [Batch.cells]

theorem openingBatch_cells (s : State) (q : QueueId) (m : Member) : (s.openingBatch q m).cells = m.cells := by
  simp [State.openingBatch, Batch.cells]

/-- R60, R61: the member's cells, and a descriptor for a batch that opens. -/
theorem store_held : (((s.store q m).queue q).held.map Batch.cells).sum = ((s.queue q).held.map Batch.cells).sum + m.cells ∧
    ((s.store q m).queue q).held.length = (s.queue q).held.length + (!(s.queue q).fits m).toNat := by
  cases fits : (s.queue q).fits m
  · rw [store_queue_opens fits]
    cases opened : (s.queue q).openBatch <;> simp [Queue.held, opened, openingBatch_cells, closed_cells] <;> omega
  · rw [store_queue_fits fits]
    obtain ⟨b, opened, -⟩ := fits_iff.1 fits
    simp [Queue.held, opened, cells_of_members]
    omega

theorem store_mode : ((s.store q m).queue q).state = (s.queue q).state ∧
    ((s.store q m).queue q).trunk = (s.queue q).trunk := by
  cases fits : (s.queue q).fits m
  · rw [store_queue_opens fits]
    exact ⟨rfl, rfl⟩
  · rw [store_queue_fits fits]
    exact ⟨rfl, rfl⟩

/-- R78: only an ACTIVE queue takes a member, and what it holds then is its own. -/
theorem holds_store {w : TrunkId → List Batch} (h : (s.queue q).Holds q w) (active : (s.queue q).state = .active) :
    ((s.store q m).queue q).Holds q w := by
  cases fits : (s.queue q).fits m
  · rw [store_queue_opens fits]
    refine ⟨h.place, h.outstanding, fun c hc => ?_, fun off => ?_, h.drain, fun halting => ?_⟩
    · simp only [Queue.held, Option.toList_some, List.mem_append, List.mem_singleton, List.mem_map] at hc
      rcases hc with rfl | ready | ⟨b, opened, rfl⟩
      · rfl
      · exact h.own c (List.mem_append_right _ ready)
      · exact h.own b (List.mem_append_left _ opened)
    · exact absurd (active.symm.trans off) (by decide)
    · exact absurd (active.symm.trans halting) (by decide)
  · rw [store_queue_fits fits]
    obtain ⟨b, opened, -⟩ := fits_iff.1 fits
    refine ⟨h.place, h.outstanding, fun c hc => ?_, fun off => ?_, h.drain, fun halting => ?_⟩
    · simp only [Queue.held, opened, Option.map_some, Option.toList_some, List.mem_append, List.mem_singleton] at hc
      rcases hc with rfl | ready
      · exact h.own b (by simp [Queue.held, opened])
      · exact h.own c (List.mem_append_right _ ready)
    · exact absurd (active.symm.trans off) (by decide)
    · exact absurd (active.symm.trans halting) (by decide)
end

theorem test_descriptor {p : Pool} {a : AcctId} {n : Nat} {d : Bool} (granted : p.test a n d = none) :
    d.toNat ≤ p.freeDescriptors := by
  unfold Pool.test at granted
  split at granted <;> [cases granted; split at granted <;> [cases granted; split at granted <;> [cases granted; skip]]]
  rename_i enough
  cases d
  · exact Nat.zero_le _
  · simpa [Nat.one_le_iff_ne_zero] using enough

theorem grantCells_sound {s : State} {a : AcctId} {n : Nat} {d : Bool} (h : s.pool.Sound)
    (granted : s.pool.test a n d = none) : (s.grantCells a n d).pool.Sound := by
  rw [grantCells_pool]
  exact (h.take granted).congr rfl rfl rfl

theorem grantCells_monitored (s : State) (a : AcctId) (n : Nat) (d : Bool) : (s.grantCells a n d).pool.Monitored :=
  monitor_monitored _

/-- R61, R78: a member that the three tests grant is charged to its queue. -/
theorem Ledger.of_admission {s u : State} (h : Ledger s) {q : QueueId} {m : Member} (active : (s.queue q).state = .active)
    (granted : s.pool.test q.acct m.cells (!(s.queue q).fits m) = none)
    (taken : u = (s.grantCells q.acct m.cells (!(s.queue q).fits m)).countQueue q .admitted 1) : Ledger (u.store q m) := by
  have pool : (u.store q m).pool = (s.grantCells q.acct m.cells (!(s.queue q).fits m)).pool := by simp [taken]
  have account : ∀ a, (u.store q m).account a = (s.grantCells q.acct m.cells (!(s.queue q).fits m)).account a := fun a => by
    rw [State.account, pool]
    rfl
  have queue : ∀ j, u.queue j = s.queue j := fun j => by simp [taken]
  have windows : ∀ j, (u.store q m).windowed j = s.windowed j := windowed_of_trunks (by simp [taken])
  have holds := holds_store (m := m) (queue q ▸ h.queue q) (by rwa [queue])
  obtain ⟨cells, descriptors⟩ := store_held (s := u) (q := q) (m := m)
  obtain ⟨-, trunk⟩ := store_mode (s := u) (q := q) (m := m)
  rw [queue] at cells descriptors trunk
  have charged := h.cells q
  have enough := test_descriptor granted
  simp only [State.heldBy, List.map_append, List.sum_append] at charged
  refine h.of_queue q (fun j other => (store_queue_ne other).trans (queue j)) (fun j _ => windows j) (by simp [taken])
    (pool ▸ grantCells_sound h.pool granted) (pool ▸ grantCells_monitored _ _ _ _)
    (fun a other => by rw [account, grantCells_account_ne _ _ _ other]) ?_ ?_ (windows q ▸ holds)
  · rw [State.heldBy, trunk, windows, List.map_append, List.sum_append, cells, account, grantCells_account_self]
    dsimp only
    omega
  · rw [State.heldBy, State.heldBy, trunk, windows, List.length_append, List.length_append, descriptors, pool,
      grantCells_freeDescriptors]
    omega

theorem Stored.enrol {s : State} (h : Stored s) (q : QueueId) (m : Member) : Stored (s.enrol q m) := by
  unfold State.enrol
  split
  · rename_i active
    dsimp only
    split
    · exact h.same (by simp [SameStorage])
    · exact h.same (by simp [SameStorage])
    · rename_i granted
      refine Stored.offerClosed (Stored.testLimits ?_ q) q _
      refine h.of_ledger (h.ledger.of_admission active granted rfl) (fun j other => by rw [store_queue_ne other]; simp) ?_
      intro halting
      rw [store_mode.1, countQueue_queue, grantCells_queue, active] at halting
      cases halting
  · exact h.same (by simp [SameStorage])

end Sys2Proof.Machine
end


section
/-! SUPPORT. The releases of the queue unit and of the delivery window keep the storage invariant: bundles that are retired or
abandoned, purges, drains and holds that expire (R62, R85 to R89, R100, R102, R125, R130). -/

namespace Sys2Proof.Machine

/-! ### Drain completion -/

theorem Stored.drainTest {s : State} (h : Ledger s) {q : QueueId} (others : ∀ j, j ≠ q → (s.queue j).Undrained) :
    Stored (s.drainTest q).1 := by
  rw [drainTest_eq]
  by_cases drained : s.drained q = true
  · obtain ⟨halting, ready, empty⟩ := (h.drained_iff q).1 drained
    have off : (s.modQueue q Queue.turnedOff).queue q = (s.queue q).turnedOff := modQueue_queue_self _ _ _
    rw [if_pos drained]
    refine ⟨h.of_held q (fun j other => by simp [other]) (fun j _ => rfl) rfl rfl ?_ ?_, fun j => ?_⟩
    · rw [State.heldBy, off]
      rfl
    · rw [off]
      exact Ledger.holds_turnedOff (h.queue q) halting ready empty
    · by_cases here : j = q
      · rw [here, off]
        exact fun halting => nomatch halting
      · rw [modQueue_queue_ne _ _ here]
        exact others j here
  · rw [if_neg drained]
    refine ⟨h, fun j => ?_⟩
    by_cases here : j = q
    · rw [here]
      exact fun halting ⟨ready, empty⟩ => drained ((h.drained_iff q).2 ⟨halting, ready, empty⟩)
    · exact others j here

/-! ### One bundle leaves -/

/-- The bundle found by its sequence is the one that leaves the window. -/
theorem eraseP_of_find {l : List Bundle} {b : Bundle} {seq : Byte} (found : l.find? (fun x => x.seq == seq) = some b) :
    b.seq = seq ∧ ∃ before after, l = before ++ b :: after ∧ (l.eraseP fun x => x.seq == seq) = before ++ after := by
  obtain ⟨own, before, after, rfl, none⟩ := List.find?_eq_some_iff_append.1 found
  refine ⟨by simpa using own, before, after, rfl, ?_⟩
  rw [List.eraseP_append_right _ fun x hx => by simpa using none x hx]
  simp [own]

/-- The window of one queue without a batch, the others as they were. -/
theorem windowed_erase {s u : State} {t : TrunkId} {b : Batch} {before after : List Batch}
    (was : (s.trunk t).bundles.map Bundle.batch = before ++ b :: after)
    (now : (u.trunk t).bundles.map Bundle.batch = before ++ after) (q : QueueId) :
    (q ≠ b.queue → u.windowed q t = s.windowed q t) ∧ (q = b.queue → (s.windowed q t).Perm (b :: u.windowed q t)) := by
  rw [windowed_eq, windowed_eq, was, now, List.filter_append, List.filter_append]
  refine ⟨fun other => ?_, fun own => ?_⟩
  · rw [List.filter_cons_of_neg (by simpa using other.symm)]
  · rw [List.filter_cons_of_pos (by simpa using own.symm)]
    exact List.perm_middle

/-- R91: a queue that loses a bundle was not OFF, and counts one fewer. -/
theorem Queue.Holds.loseBundle {u : Queue} {q : QueueId} {w w' : TrunkId → List Batch} (h : u.Holds q w) {b : Batch}
    (gone : (w u.trunk).Perm (b :: w' u.trunk)) (others : ∀ i, i ≠ u.trunk → w' i = w i) :
    ({ u with outstanding := u.outstanding - 1 } : Queue).Holds q w' where
  place i hi := (others i hi).trans (h.place i hi)
  outstanding := by
    have length := gone.length_eq
    rw [List.length_cons, ← h.outstanding] at length
    exact Nat.sub_eq_of_eq_add length
  own := h.own
  off off := by
    have none := (h.off off).2
    rw [none] at gone
    exact absurd gone.symm (List.cons_ne_nil _ _ ∘ List.Perm.eq_nil)
  drain := h.drain
  halting := h.halting

section
variable {s : State} {t : TrunkId} {b : Bundle}

theorem Ledger.releaseBundle (h : Ledger s) (found : (s.trunk t).bundles.find? (fun x => x.seq == b.seq) = some b) :
    Ledger (s.releaseBundle t b) := by
  obtain ⟨-, before, after, window, erased⟩ := eraseP_of_find found
  have now : ((s.releaseBundle t b).trunk t).bundles = before ++ after := by rw [releaseBundle_trunk_self, erased]
  have windows := windowed_erase (s := s) (u := s.releaseBundle t b) (t := t) (b := b.batch)
    (before := before.map Bundle.batch) (after := after.map Bundle.batch) (by rw [window]; simp) (by rw [now]; simp)
  have elsewhere : ∀ q i, i ≠ t → (s.releaseBundle t b).windowed q i = s.windowed q i := fun q i hi =>
    windowed_congr (by rw [releaseBundle_trunk_ne s b hi]) q
  have gone := (windows b.batch.queue).2 rfl
  have holds := h.queue b.batch.queue
  have place : (s.queue b.batch.queue).trunk = t := by
    refine not_not.1 fun elsewhere => ?_
    rw [holds.place t fun e => elsewhere e.symm] at gone
    exact List.cons_ne_nil _ _ gone.symm.eq_nil
  have queue := releaseBundle_queue_self s t b
  refine h.of_release b.batch.queue [b.batch] ?_ (fun j other => releaseBundle_queue_ne s t b other)
    (fun j other => funext fun i => ?_) (by simp) ?_ ?_
  · obtain ⟨pool, -⟩ := release_congr
      (s := s.modTrunk t fun k => { k with bundles := k.bundles.eraseP fun x => x.seq == b.seq }) (t := s) rfl rfl
      b.batch.queue.acct b.batch.cells 1
    simpa [State.releaseBundle] using pool
  · by_cases here : i = t
    · rw [here]
      exact (windows j).1 other
    · exact elsewhere j i here
  · rw [State.heldBy, State.heldBy, queue, place]
    exact (gone.append_left _).trans List.perm_middle
  · rw [queue]
    exact holds.loseBundle (by rwa [place]) (by rw [place]; exact elsewhere _)

/-- R125: what a retirement counts does not matter. -/
theorem Stored.retire (h : Stored s) (found : (s.trunk t).bundles.find? (fun x => x.seq == b.seq) = some b) :
    Stored (s.retire t b).1 :=
  .drainTest ((h.ledger.releaseBundle found).same (by simp [SameStorage])) fun j other => by
    rw [countQueue_queue, countQueue_queue, releaseBundle_queue_ne s t b other]
    exact h.undrained j

/-- R130. -/
theorem Stored.abandon (h : Stored s) (found : (s.trunk t).bundles.find? (fun x => x.seq == b.seq) = some b) :
    Stored (s.abandon t b).1 :=
  .drainTest ((h.ledger.releaseBundle found).same (by simp [SameStorage])) fun j other => by
    rw [countTrunk_queue, countQueue_queue, releaseBundle_queue_ne s t b other]
    exact h.undrained j
end

namespace Stored
variable {s : State}

/-- A retirement that its own step raises the drain completion of, and then the emptied window (R99). -/
theorem retireAndEmpty (h : Stored s) {t : TrunkId} {seq : Byte} {b : Bundle}
    (found : (s.trunk t).bundles.find? (fun x => x.seq == seq) = some b) :
    Stored (((s.retire t b).1.raise .queueUnit (s.retire t b).2).windowEmptied t) := by
  obtain ⟨rfl, -⟩ := eraseP_of_find found
  exact ((h.retire found).raise _ _).windowEmptied t

/-! ### Acknowledgement and retries -/

theorem ackOne {x : State × List Raise} (h : Stored x.1) (t : TrunkId) (seq : Byte) : Stored (State.ackOne t x seq).1 := by
  unfold State.ackOne
  split
  · exact h.same (by simp [SameStorage])
  · rename_i found
    split
    · exact h.same (by simp [SameStorage])
    · split
      · exact h.modTrunk (updBundle_batches _ _ fun _ => rfl)
      · obtain ⟨rfl, -⟩ := eraseP_of_find found
        exact h.retire found

theorem takeAck (h : Stored s) (t : TrunkId) (l : List Byte) : Stored (s.takeAck t l) := by
  unfold State.takeAck
  split
  · exact h.same (by simp [SameStorage])
  · have listed : Stored ((l.drop 1).foldl (State.ackOne t) (s, [])).1 :=
      List.foldlRecOn (motive := fun x : State × List Raise => Stored x.1) _ _ h fun _ hx seq _ => hx.ackOne t seq
    have emptied := fun es => (listed.raise .queueUnit es).windowEmptied t
    dsimp only
    split
    · exact (emptied _).trunkSelect t
    · exact emptied _

theorem retryExpires (h : Stored s) {t : TrunkId} {seq : Byte} {b : Bundle} (due : s.retryDue t seq = some b) :
    Stored (s.retryExpires t b) := by
  have found : (s.trunk t).bundles.find? (fun x => x.seq == b.seq) = some b := by
    unfold State.retryDue at due
    split at due
    · cases due
    · rename_i found
      split at due
      · cases due
        obtain ⟨rfl, -⟩ := eraseP_of_find found
        exact found
      · cases due
  unfold State.retryExpires
  split
  · exact (((h.abandon found).raise _ _).windowEmptied t).trunkSelect t
  · exact (h.modTrunk (by exact updBundle_batches _ _ fun _ => rfl)).trunkSelect t

/-! ### Holds -/

/-- R102: the bundles are abandoned, oldest first. -/
theorem abandonAll (h : Stored s) (t : TrunkId) : Stored (s.abandonAll t).1 := by
  have all : ∀ (l : List Bundle) (x : State × List Raise), Stored x.1 → (x.1.trunk t).bundles = l →
      Stored (l.foldl (fun acc b => ((acc.1.abandon t b).1, acc.2 ++ (acc.1.abandon t b).2)) x).1 := by
    intro l
    induction l with
    | nil => exact fun _ hx _ => hx
    | cons b rest ih => exact fun x hx window => ih _ (hx.abandon (by simp [window])) (by simp [window])
  exact all _ (s, []) h rfl

theorem holdExpires (h : Stored s) (t : TrunkId) : Stored (s.holdExpires t) :=
  ((h.abandonAll t).raise _ _).modTrunk rfl

theorem enterHold_batches (k : Trunk) (now : Word) (stop : Bool) :
    (k.enterHold now stop).bundles.map Bundle.batch = k.bundles.map Bundle.batch := by
  rw [Trunk.enterHold, List.map_map]
  rfl

theorem trunkLinkDown (h : Stored s) (t : TrunkId) : Stored (s.trunkLinkDown t) := by
  have held : ∀ stop, Stored (s.modTrunk t fun k => k.enterHold s.now stop) := fun stop =>
    h.modTrunk (enterHold_batches _ _ _)
  unfold State.trunkLinkDown
  dsimp only
  split
  · split
    · exact h.modTrunk rfl
    · split
      · exact (held false).holdExpires t
      · exact held false
  · split
    · exact h.modTrunk rfl
    · split
      · exact (held true).holdExpires t
      · exact held true
  all_goals exact h

theorem windowAbort (h : Stored s) (t : TrunkId) (w : Option OnWire) : Stored (s.windowAbort t w) := by
  unfold State.windowAbort
  split
  · exact h
  · split
    · exact h
    · exact h
    · split
      · exact h
      · rename_i found
        split
        · exact h.retireAndEmpty found
        · exact h

theorem bundleEnds (h : Stored s) (t : TrunkId) (seq : Byte) : Stored (s.bundleEnds t seq) := by
  unfold State.bundleEnds
  split
  · exact h
  · rename_i found
    split
    · exact h.retireAndEmpty found
    · exact h.modTrunk (updBundle_batches _ _ fun _ => rfl)

end Stored

/-! ### A queue gives up what it holds -/

/-- R89: a queue that is not OFF is left with its bundles. -/
theorem Queue.Holds.purge {u : Queue} {q : QueueId} {w : TrunkId → List Batch} (h : u.Holds q w) :
    ({ u with openBatch := none, ready := [] } : Queue).Holds q w where
  place := h.place
  outstanding := h.outstanding
  own _ hb := nomatch hb
  off off := ⟨rfl, (h.off off).2⟩
  drain := h.drain
  halting halting := ⟨rfl, (h.halting halting).2⟩

theorem Stored.purge {s : State} (h : Stored s) (q : QueueId) : Stored (s.purge q) := by
  have pool := (release_congr (s := s.modQueue q fun u => { u with openBatch := none, ready := [] }) (t := s) rfl rfl q.acct
    ((s.queue q).held.map Batch.cells).sum (s.queue q).held.length).1
  refine Stored.raise (.drainTest ?_ fun j other => ?_) _ _
  · refine h.ledger.of_release q (s.queue q).held (by simpa using pool) (fun j other => by simp [other])
      (fun j _ => windowed_of_trunks (by simp) j) (by simp) ?_ ?_
    · simp [State.heldBy, windowed_of_trunks (s := s), Queue.held]
    · rw [windowed_of_trunks (s := s) (by simp)]
      simpa using (h.ledger.queue q).purge
  · simpa [other] using h.undrained j

/-- R85: an ACTIVE queue without an open batch turns HALTING. -/
theorem Queue.Holds.halt {u : Queue} {q : QueueId} {w : TrunkId → List Batch} (h : u.Holds q w)
    (closed : u.openBatch = none) (d : Word) : ({ u with state := .halting, drain := some d } : Queue).Holds q w where
  place := h.place
  outstanding := h.outstanding
  own := h.own
  off off := nomatch off
  drain other := absurd rfl other
  halting _ := ⟨closed, rfl⟩

theorem closeOpen_openBatch (s : State) (q : QueueId) (r : CloseReason) : ((s.closeOpen q r).queue q).openBatch = none := by
  cases opened : (s.queue q).openBatch with
  | none => rwa [closeOpen_none s r opened]
  | some b => simp [closeOpen_some s r opened]

theorem Stored.halt {s : State} (h : Stored s) (q : QueueId) : Stored (s.halt q) := by
  have closed := h.closeOpen q .halt
  refine Stored.offerClosed (Stored.raise (.drainTest ?_ fun j other => ?_) _ _) q _
  · refine closed.ledger.of_held q (fun j other => by simp [other]) (fun j _ => rfl) rfl rfl ?_ ?_
    · simp [State.heldBy, Queue.held]
      rfl
    · rw [modQueue_queue_self]
      exact (closed.ledger.queue q).halt (closeOpen_openBatch s q .halt) _
  · rw [modQueue_queue_ne _ _ other]
    exact closed.undrained j

/-! ### A drain that ends by force -/

/-- R87: what the queue gives up: its ready batches and its bundles. -/
def State.drainGone (s : State) (q : QueueId) : List Batch :=
  (s.queue q).ready ++ ((s.trunk (s.queue q).trunk).bundlesOf q).map Bundle.batch

/-- R87: the state in which the forced end of a drain has been raised, before the emptied window is applied. -/
def State.drainForced (s : State) (q : QueueId) : State :=
  ((((((if s.sendsFor (s.queue q).trunk q then s.abort (s.queue q).trunk.port else s).modTrunk (s.queue q).trunk fun k =>
    { k with bundles := k.bundles.filter fun b => b.batch.queue != q }).release q.acct
      ((s.drainGone q).map Batch.cells).sum (s.drainGone q).length).countQueue q .framesAbandoned
        ((s.drainGone q).map fun b => b.members.length).sum).modQueue q fun u =>
          { u.turnedOff with ready := [], outstanding := 0 }).raise .queueUnit [raiseOf .queueOff q.val 2])

theorem drainExpires_eq (s : State) (q : QueueId) : s.drainExpires q =
    if (((s.trunk (s.queue q).trunk).bundlesOf q).map Bundle.batch).isEmpty then s.drainForced q
    else ((s.drainForced q).windowEmptied (s.queue q).trunk).trunkSelect (s.queue q).trunk := rfl

section
variable (s : State) (q : QueueId)

theorem drainForced_queue_self : (s.drainForced q).queue q =
    { s.queue q with state := .off, drain := none, ready := [], outstanding := 0 } := by
  simp [State.drainForced, apply_ite (fun u : State => u.queue q), Queue.turnedOff]

theorem drainForced_queue_ne {j : QueueId} (other : j ≠ q) : (s.drainForced q).queue j = s.queue j := by
  simp [State.drainForced, apply_ite (fun u : State => u.queue j), other]

theorem drainForced_trunk_self : (s.drainForced q).trunk (s.queue q).trunk = { s.trunk (s.queue q).trunk with
    bundles := (s.trunk (s.queue q).trunk).bundles.filter fun b => b.batch.queue != q } := by
  simp [State.drainForced, apply_ite (fun u : State => u.trunk (s.queue q).trunk)]

theorem drainForced_trunk_ne {i : TrunkId} (other : i ≠ (s.queue q).trunk) : (s.drainForced q).trunk i = s.trunk i := by
  simp [State.drainForced, apply_ite (fun u : State => u.trunk i), other]

theorem drainForced_pool : (s.drainForced q).pool =
    (s.release q.acct ((s.drainGone q).map Batch.cells).sum (s.drainGone q).length).pool := by
  simp only [State.drainForced, raise_pool, modQueue_pool, countQueue_pool]
  refine (release_congr ?_ ?_ _ _ _).1 <;> split <;> simp
end

theorem Stored.drainForced {s : State} (h : Stored s) {q : QueueId} (halting : (s.queue q).state = .halting) :
    Stored (s.drainForced q) := by
  have holds := h.ledger.queue q
  obtain ⟨closed, -⟩ := holds.halting halting
  have window : ∀ j, (s.drainForced q).windowed j (s.queue q).trunk =
      if j = q then [] else s.windowed j (s.queue q).trunk := fun j => by
    rw [State.windowed, State.windowed, drainForced_trunk_self, Trunk.bundlesOf, Trunk.bundlesOf, List.filter_filter]
    split
    · rename_i here
      rw [here, List.filter_eq_nil_iff.2 fun b _ => by simp]
      rfl
    · rename_i other
      refine congrArg _ (List.filter_congr fun b _ => ?_)
      by_cases own : b.batch.queue = j <;> simp [own, other]
  have elsewhere : ∀ j i, i ≠ (s.queue q).trunk → (s.drainForced q).windowed j i = s.windowed j i := fun j i hi =>
    windowed_congr (by rw [drainForced_trunk_ne s q hi]) j
  refine h.of_ledger (q := q) ?_ (fun j other => drainForced_queue_ne s q other) ?_
  · refine h.ledger.of_release q (s.drainGone q) (drainForced_pool s q) (fun j other => drainForced_queue_ne s q other)
      (fun j other => funext fun i => ?_) (by simp [State.drainForced, apply_ite State.edge]) ?_ ?_
    · by_cases here : i = (s.queue q).trunk
      · rw [here, window, if_neg other]
      · exact elsewhere j i here
    · rw [State.heldBy, State.heldBy, drainForced_queue_self, window, if_pos rfl, Queue.held, Queue.held, closed]
      simp [State.drainGone, State.windowed]
    · rw [drainForced_queue_self]
      have none : (s.drainForced q).windowed q (s.queue q).trunk = [] := by rw [window, if_pos rfl]
      exact {
        place := fun i hi => (elsewhere q i hi).trans (holds.place i hi)
        outstanding := by simp [none]
        own := fun b hb => by simp [Queue.held, closed] at hb
        off := fun _ => ⟨by simp [Queue.held, closed], none⟩
        drain := fun _ => rfl
        halting := fun off => nomatch off }
  · rw [drainForced_queue_self]
    exact fun off => nomatch off

theorem Stored.drainExpires {s : State} (h : Stored s) {q : QueueId} (halting : (s.queue q).state = .halting) :
    Stored (s.drainExpires q) := by
  rw [drainExpires_eq]
  split
  · exact h.drainForced halting
  · exact ((h.drainForced halting).windowEmptied _).trunkSelect _

end Sys2Proof.Machine
end


section
/-! SUPPORT. The return path and the restart keep the storage invariant (R38, R39, R40, R62, R72, R94, R116, R135). -/

namespace Sys2Proof.Machine

/-! ### Return lists -/

theorem returnsHeld_eq (s : State) : s.returnsHeld = ∑ k, ((s.edge.returns.get k).map returnCells).sum :=
  s.edge.returns.sum_map_list _

/-- One return list changes. -/
theorem returnsHeld_set {s t : State} {k : EdgeId} {l : List Frame} (returns : t.edge.returns = s.edge.returns.set k l) :
    t.returnsHeld + ((s.edge.returns.get k).map returnCells).sum = s.returnsHeld + (l.map returnCells).sum := by
  have here : t.edge.returns.get k = l := by rw [returns, Tab.get_set_self]
  rw [returnsHeld_eq, returnsHeld_eq, ← here]
  exact sum_change (f := fun j => ((t.edge.returns.get j).map returnCells).sum)
    (g := fun j => ((s.edge.returns.get j).map returnCells).sum) k fun j other => by rw [returns, Tab.get_set_ne _ _ other]

/-- R24, R25, R39: frames leave a return list, and their cells are freed. -/
theorem Stored.dropReturns {s : State} (h : Stored s) {k : EdgeId} {kept gone : List Frame}
    (split : (s.edge.returns.get k).Perm (gone ++ kept)) : Stored (s.dropReturns k kept gone) := by
  have lists := returnsHeld_set (s := s) (t := s.dropReturns k kept gone) (k := k) (l := kept) (by simp [State.dropReturns])
  have cells := (split.map returnCells).sum_eq
  have charged := h.ledger.returns
  rw [List.map_append, List.sum_append] at cells
  have account : ((s.dropReturns k kept gone).account retAcct).inUse =
      (s.account retAcct).inUse - (gone.map returnCells).sum := by
    simp [State.dropReturns]
  refine ⟨h.ledger.of_pool (fun q => by simp [State.dropReturns]) (windowed_of_trunks (by simp [State.dropReturns])) ?_ ?_
    (fun q => ?_) (by omega) (by simp [State.dropReturns]), fun q => by simpa [State.dropReturns] using h.undrained q⟩
  · refine release_sound (s := s.modEdge _) h.ledger.pool ?_ 0
    rw [modEdge_account]
    omega
  · exact release_monitored (by exact h.ledger.monitored) _ _ _
  · rw [State.dropReturns, release_account_ne _ _ _ (acct_ne_retAcct q), modEdge_account]

theorem Stored.loseReturns {s : State} (h : Stored s) {k : EdgeId} {kept gone : List Frame}
    (split : (s.edge.returns.get k).Perm (gone ++ kept)) : Stored (s.loseReturns k kept gone) :=
  (h.dropReturns split).same (by simp [SameStorage, State.loseReturns])

/-- R38: a return frame that the tests grant is charged to RET. -/
theorem Stored.returnAdmit {s : State} (h : Stored s) (t : TrunkId) (f : Frame) (k : EdgeId) :
    Stored (State.returnAdmit t f s k) := by
  unfold State.returnAdmit
  split
  · exact h.same (by simp [SameStorage])
  · split
    · exact h.same (by simp [SameStorage])
    · rename_i granted
      refine Stored.edgeSelect ?_ k
      have lists := returnsHeld_set (s := s) (k := k) (l := s.edge.returns.get k ++ [f])
        (t := (s.grantCells retAcct (returnCells f) false).modEdge fun e =>
          { e with returns := e.returns.upd k fun l => l ++ [f] }) (by simp [Tab.upd])
      have charged := h.ledger.returns
      simp only [List.map_append, List.sum_append, List.map_cons, List.map_nil, List.sum_cons, List.sum_nil] at lists
      refine ⟨h.ledger.of_pool (fun q => by simp) (windowed_of_trunks (by simp))
        (by simpa using grantCells_sound h.ledger.pool granted) (by simpa using grantCells_monitored s _ _ _)
        (fun q => ?_) ?_ (by simp), fun q => by simpa using h.undrained q⟩
      · rw [modEdge_account, grantCells_account_ne _ _ _ (acct_ne_retAcct q)]
      · rw [modEdge_account, grantCells_account_self]
        dsimp only
        omega

theorem Stored.returnPath {s : State} (h : Stored s) (t : TrunkId) (f : Frame) : Stored (s.returnPath t f) := by
  unfold State.returnPath
  split
  · split
    · exact h.same (by simp [SameStorage])
    · exact List.foldlRecOn _ _ h fun _ hu k _ => hu.returnAdmit t f k
  · split
    · split
      · exact h.returnAdmit _ _ _
      · exact h.same (by simp [SameStorage])
    · exact h.same (by simp [SameStorage])

/-! ### The restart of each block -/

namespace Stored
variable {s : State}

theorem edgeUnitRestarts (h : Stored s) : Stored (s.blockRestarts .edgeUnit) := by
  have none : (s.blockRestarts .edgeUnit).returnsHeld = 0 :=
    returnsHeld_zero fun k => by rw [blockRestarts_edge, if_pos rfl, restarted_returns]
  have pool : (s.blockRestarts .edgeUnit).pool = (s.release retAcct s.returnsHeld 0).pool := by rw [edgeUnit_restarts]
  have account : ∀ a, (s.blockRestarts .edgeUnit).account a = (s.release retAcct s.returnsHeld 0).account a := fun a => by
    rw [State.account, pool]
    rfl
  have queue : ∀ q, (s.blockRestarts .edgeUnit).queue q = s.queue q := fun q => by
    rw [edgeUnit_restarts]
    rfl
  have charged := h.ledger.returns
  refine ⟨h.ledger.of_pool queue (windowed_of_trunks (by rw [edgeUnit_restarts]))
    (pool ▸ release_sound h.ledger.pool charged.ge 0) (pool ▸ release_monitored h.ledger.monitored _ _ _) (fun q => ?_) ?_
    (by rw [pool, release_freeDescriptors]; rfl), fun q => queue q ▸ h.undrained q⟩
  · rw [account, release_account_ne _ _ _ (acct_ne_retAcct q)]
  · rw [account, release_account_self, none, charged]
    exact Nat.sub_self _

theorem cellPoolRestarts (h : Stored s) : Stored (s.blockRestarts .cellPool) := by
  refine ⟨h.ledger.of_pool (fun _ => rfl) (fun _ => rfl) (h.ledger.pool.congr rfl rfl rfl) ?_ (fun _ => rfl)
    h.ledger.returns rfl, h.undrained⟩
  simp only [State.blockRestarts, modPool_pool, Pool.restarted, Pool.Monitored, decide_eq_true_eq]
  split <;> omega

/-- What a queue holds is what of the part's batches is its own. -/
theorem storedBatches_filter (h : Stored s) (q : QueueId) : (s.storedBatches.filter fun b => b.queue == q) = s.heldBy q := by
  have ok := fun j => queueOk_iff.2 ⟨h.ledger.queue j, h.undrained j⟩
  rw [← batchesOf_eq_filter fun j => own_of_queueOk (ok j), batchesOf_eq (h.ledger.queue q).place]

theorem queueUnitRestarts (h : Stored s) : Stored (s.blockRestarts .queueUnit) := by
  have queue : ∀ q, (s.blockRestarts .queueUnit).queue q = (s.queue q).restarted := queueUnit_restarts_queue s
  have window : ∀ q i, (s.blockRestarts .queueUnit).windowed q i = [] := fun q i => by
    rw [windowed_eq, blockRestarts_trunk, if_neg nofun, if_pos rfl, emptied_bundles]
    rfl
  have notHalting : ∀ q, (s.queue q).restarted.state ≠ .halting := fun q => by
    cases mode : (s.queue q).state <;> simp [Queue.restarted, mode]
  refine ⟨h.ledger.of_releaseBatches s.storedBatches (by rw [queueUnit_restarts]) (by rw [queueUnit_restarts])
    (fun q => ?_) fun q => ?_, fun q => by rw [queue]; exact fun halting => absurd halting (notHalting q)⟩
  · rw [h.storedBatches_filter, State.heldBy, State.heldBy, queue, window]
    simp [Queue.held, Queue.restarted]
  · rw [queue]
    exact {
      place := fun i _ => window q i
      outstanding := by rw [window]; rfl
      own := fun b hb => nomatch hb
      off := fun _ => ⟨rfl, window q _⟩
      drain := fun _ => rfl
      halting := fun halting => absurd halting (notHalting q) }

end Stored

/-- R86, R94: whatever queues are drained go OFF. -/
theorem Stored.drainedOff {s : State} (h : Ledger s) : Stored s.drainedOff := by
  have kept : ∀ q, (s.drainedOff.queue q).held = (s.queue q).held ∧ (s.drainedOff.queue q).trunk = (s.queue q).trunk := fun q => by
    rw [drainedOff_queue]
    split <;> exact ⟨rfl, rfl⟩
  have held : ∀ q, s.drainedOff.heldBy q = s.heldBy q := fun q => by
    rw [State.heldBy, (kept q).1, (kept q).2]
    rfl
  refine ⟨⟨h.pool, h.monitored, fun q => held q ▸ h.cells q, h.returns, ?_, fun q => ?_⟩, fun q => ?_⟩
  · simp only [held]
    exact h.descriptors
  · rw [drainedOff_queue]
    split
    · rename_i drained
      obtain ⟨halting, ready, empty⟩ := (h.drained_iff q).1 drained
      exact Ledger.holds_turnedOff (h.queue q) halting ready empty
    · exact h.queue q
  · rw [drainedOff_queue]
    split
    · exact fun halting => nomatch halting
    · rename_i notDrained
      exact fun halting ⟨ready, empty⟩ => notDrained ((h.drained_iff q).2 ⟨halting, ready, empty⟩)

/-- R135: the bundles of one window leave their queue. -/
theorem Queue.Holds.leaveWindow {u : Queue} {q : QueueId} {w w' : TrunkId → List Batch} (h : u.Holds q w) {t : TrunkId}
    (empty : w' t = []) (others : ∀ i, i ≠ t → w' i = w i) :
    ({ u with outstanding := u.outstanding - (w t).length } : Queue).Holds q w' := by
  have gone : w' u.trunk = if u.trunk = t then [] else w u.trunk := by
    split
    · rename_i here
      rw [here, empty]
    · rename_i other
      exact others _ other
  refine ⟨fun i hi => ?_, ?_, h.own, fun off => ⟨(h.off off).1, ?_⟩, h.drain, h.halting⟩
  · by_cases here : i = t
    · rw [here, empty]
    · rw [others i here, h.place i hi]
  · have outstanding := h.outstanding
    simp only [gone]
    split
    · rename_i here
      rw [here] at outstanding
      simp [outstanding]
    · rename_i other
      simp [h.place t fun e => other e.symm, outstanding]
  · simp only [gone, (h.off off).2, ite_self]

namespace Stored
variable {s : State}

theorem trunkUnitRestarts (h : Stored s) (t : TrunkId) : Stored (s.trunkUnitRestarts t) := by
  obtain ⟨pool, -⟩ := releaseBatches_congr (t := s) (s := ({ s with
    queues := s.fewerOutstanding t
    trunks := s.trunks.upd t fun k => k.restarted (s.link t.port).up
    links := s.links.upd t.port fun l => l.aborted WireOwner.isBundle } : State)) rfl rfl
    ((s.trunk t).bundles.map Bundle.batch)
  refine Stored.drainedOff (h.ledger.of_releaseBatches ((s.trunk t).bundles.map Bundle.batch) pool (by simp) ?_ ?_)
  all_goals
    intro q
    generalize emptied : State.releaseBatches _ _ = u
    have queue : u.queue q = { s.queue q with outstanding := (s.queue q).outstanding - (s.windowed q t).length } := by
      rw [← emptied, State.windowed, List.length_map]
      simp [State.queue, State.fewerOutstanding]
    have empty : u.windowed q t = [] := by
      rw [← emptied, windowed_eq]
      simp [State.trunk, Trunk.restarted]
    have others : ∀ i, i ≠ t → u.windowed q i = s.windowed q i := fun i hi =>
      windowed_congr (by rw [← emptied]; simp [State.trunk, hi]) q
  · rw [← windowed_eq, State.heldBy, State.heldBy, queue]
    by_cases here : (s.queue q).trunk = t
    · rw [here, empty, List.append_nil]
      exact List.perm_append_comm
    · rw [others _ here, (h.ledger.queue q).place t fun e => here e.symm]
      exact .rfl
  · rw [queue]
    exact (h.ledger.queue q).leaveWindow empty others

theorem blockRestarts (h : Stored s) (b : RestartBlock) : Stored (s.blockRestarts b) := by
  cases b with
  | linkLayer p => rw [linkLayer_restarts]; exact h.same ⟨rfl, rfl, rfl, fun _ => rfl⟩
  | edgeUnit => exact h.edgeUnitRestarts
  | cellPool => exact h.cellPoolRestarts
  | queueUnit => exact h.queueUnitRestarts
  | trunkUnit t => exact h.trunkUnitRestarts t
  | steeringUnit | managementUnit | eventUnit | counterBlock => exact h.same ⟨rfl, rfl, rfl, fun _ => rfl⟩

end Stored
end Sys2Proof.Machine
end


section
/-! SUPPORT. From the operations to the commands: which steps leave the storage alone, and that the others keep its invariant. -/

namespace Sys2Proof.Machine

/-! ### Steps that leave the storage alone -/

section
variable (s : State)

theorem SameStorage.refl : SameStorage s s := ⟨rfl, rfl, rfl, fun _ => rfl⟩

theorem sameStorage_learn (k : EdgeId) (a : Half) : SameStorage s (s.learn k a) := by simp [SameStorage]
theorem sameStorage_requestArrives (r : Request) : SameStorage s (s.requestArrives r) := by
  unfold State.requestArrives
  dsimp only
  (repeat' split) <;> simp [SameStorage]
theorem sameStorage_loseResponse (c : ControlFrame) : SameStorage s (s.loseResponse c) := by
  unfold State.loseResponse
  split <;> simp [SameStorage]
theorem sameStorage_mgmtLinkDown (p : Port) (lost : List ControlFrame) : SameStorage s (s.mgmtLinkDown p lost) := by
  unfold State.mgmtLinkDown
  split
  · split <;> [exact sameStorage_loseResponse s _; exact .refl s]
  · split <;> exact ⟨rfl, rfl, rfl, fun _ => rfl⟩
  · exact .refl s
  · exact .refl s
theorem sameStorage_controlEnds (p : Port) : SameStorage s (s.controlEnds p) := by
  unfold State.controlEnds
  dsimp only
  (repeat' split) <;> simp [SameStorage]
theorem sameStorage_downReported (p : Port) (receiving : Bool) : SameStorage s (s.downReported p receiving) := by
  cases receiving <;> simp [SameStorage, State.downReported]
theorem sameStorage_unitsLinkUp (p : Port) : SameStorage s (s.unitsLinkUp p) := by
  have batches : ∀ k : Trunk, k.linkUp.bundles.map Bundle.batch = k.bundles.map Bundle.batch := fun k => by
    unfold Trunk.linkUp
    split <;> simp [Bundle.heldDue, Function.comp_def]
  unfold State.unitsLinkUp
  split
  · exact .refl s
  · exact sameStorage_modTrunk s (batches _)
theorem sameStorage_syncs (i : EntryId) : SameStorage s (s.syncs i) := by
  unfold State.syncs
  dsimp only
  split <;> simp [SameStorage]

variable (r : Request)

theorem sameStorage_claimBody : SameStorage s (claimBody s r).1 := by
  unfold claimBody
  split <;> [simp [SameStorage]; split <;> exact .refl s]
theorem sameStorage_releaseBody : SameStorage s (releaseBody s r).1 := by
  unfold releaseBody
  split <;> simp [SameStorage]
theorem sameStorage_tableWriteBody : SameStorage s (tableWriteBody s r).1 := by
  unfold tableWriteBody
  (repeat' split) <;> exact ⟨rfl, rfl, rfl, fun _ => rfl⟩
theorem sameStorage_commitBody : SameStorage s (commitBody s r).1 := by
  unfold commitBody
  split <;> exact ⟨rfl, rfl, rfl, fun _ => rfl⟩
theorem sameStorage_dirPinBody : SameStorage s (dirPinBody s r).1 := by
  unfold dirPinBody
  (repeat' split) <;> exact ⟨rfl, rfl, rfl, fun _ => rfl⟩
theorem sameStorage_dirUnpinBody : SameStorage s (dirUnpinBody s r).1 := by
  unfold dirUnpinBody
  (repeat' split) <;> exact ⟨rfl, rfl, rfl, fun _ => rfl⟩
theorem sameStorage_subscribeBody : SameStorage s (subscribeBody s r).1 := by
  unfold subscribeBody
  (repeat' split) <;> exact ⟨rfl, rfl, rfl, fun _ => rfl⟩
theorem sameStorage_unsubscribeBody : SameStorage s (unsubscribeBody s r).1 := by
  unfold unsubscribeBody
  split <;> [exact .refl s; (dsimp only; split <;> exact ⟨rfl, rfl, rfl, fun _ => rfl⟩)]
theorem sameStorage_readEventsTakeBody : SameStorage s (readEventsTakeBody s r).1 := by
  unfold readEventsTakeBody
  split <;> exact ⟨rfl, rfl, rfl, fun _ => rfl⟩
theorem sameStorage_readCountersClearBody : SameStorage s (readCountersClearBody s r).1 := by
  unfold readCountersClearBody
  split <;> exact ⟨rfl, rfl, rfl, fun _ => rfl⟩
end

namespace Stored
variable {s : State}

/-! ### The event unit -/

theorem place (h : Stored s) (p : Port) (c : ControlFrame) : Stored (s.place p c) := by
  refine Stored.select ?_ p
  exact h.same ⟨rfl, rfl, rfl, fun _ => rfl⟩

theorem offerNotes (h : Stored s) (p : Port) (l : List SlotId) : Stored (s.offerNotes p l) := by
  induction l generalizing s with
  | nil => exact h
  | cons i rest ih =>
    have refused : Stored (s.countMgmt .notesRefused 1) := h.same ⟨rfl, rfl, rfl, fun _ => rfl⟩
    unfold State.offerNotes
    split
    · split
      · refine ih (Stored.place ?_ p _)
        exact h.same ⟨rfl, rfl, rfl, fun _ => rfl⟩
      · exact refused
      · exact refused
    · exact ih h

theorem opportunity (h : Stored s) (p : Port) : Stored (s.opportunity p) := h.offerNotes p _

theorem takeRaise (h : Stored s) (r : Raise) : Stored (s.takeRaise r) :=
  List.foldlRecOn _ _ (h.same ⟨rfl, rfl, rfl, fun _ => rfl⟩) fun _ hu p _ => hu.opportunity p

theorem takeRaises (h : Stored s) (rs : List Raise) : Stored (s.takeRaises rs) :=
  List.foldlRecOn _ _ h fun _ hu r _ => hu.takeRaise r

theorem takeAllOf (h : Stored s) (b : Block) : Stored (s.takeAllOf b) := by
  refine Stored.takeRaises ?_ _
  exact h.same ⟨rfl, rfl, rfl, fun _ => rfl⟩

theorem takeArrival (h : Stored s) (b : Block) : Stored (s.takeArrival b) := by
  unfold State.takeArrival
  split
  · exact h
  · refine Stored.takeRaises ?_ _
    exact h.same ⟨rfl, rfl, rfl, fun _ => rfl⟩

/-! ### The link layer -/

theorem linkComesUp (h : Stored s) (p : Port) : Stored (s.linkComesUp p) := by
  have up : Stored (s.modLink p fun l => { l with up := true }) := h.same ⟨rfl, rfl, rfl, fun _ => rfl⟩
  exact ((((up.same (sameStorage_unitsLinkUp _ p)).raise _ _).takeAllOf _).opportunity p).select p

theorem linkGoesDown (h : Stored s) (p : Port) (receiving : Bool) : Stored (s.linkGoesDown p receiving) := by
  have reported := h.same (sameStorage_downReported s p receiving)
  rw [linkGoesDown_eq]
  refine Stored.same ?_ (sameStorage_mgmtLinkDown _ p _)
  unfold State.unitsLinkDown
  split
  · rename_i k _
    refine Stored.loseReturns (reported.same (by simp [SameStorage])) ?_
    simp
  · exact (reported.windowAbort _ _).trunkLinkDown _

theorem classify (h : Stored s) (k : EdgeId) (f : Frame) : Stored (s.classify k f) := by
  have steered : ∀ {u : State} (a : SteerAction) (q : QueueId), Stored u → Stored (u.steerTo a q k f) := fun a q hu => by
    cases a with
    | toQueue => exact hu.enrol q _
    | discard => exact hu.same ⟨rfl, rfl, rfl, fun _ => rfl⟩
  unfold State.classify
  split
  · exact steered _ _ (h.same ⟨rfl, rfl, rfl, fun _ => rfl⟩)
  · exact steered _ _ (h.same ⟨rfl, rfl, rfl, fun _ => rfl⟩)

theorem dispatch (h : Stored s) (p : Port) (f : Frame) : Stored (s.dispatch p f) := by
  have counted : ∀ c, Stored (s.countPort p c 1) := fun c => h.same ⟨rfl, rfl, rfl, fun _ => rfl⟩
  unfold State.dispatch
  split
  · unfold State.dispatchMgmt
    split
    · exact h.same (sameStorage_requestArrives s _)
    · exact counted _
  · split
    · unfold State.dispatchAck
      split
      · split <;> [exact counted _; split <;> exact counted _]
      · split <;> [exact counted _; split <;> [exact counted _; exact h.takeAck _ _]]
    · unfold State.dispatchData
      split
      · split <;> [exact counted _; exact (h.same (sameStorage_learn s _ _)).classify _ _]
      · split <;> [exact counted _; split <;> [exact counted _; exact h.returnPath _ _]]

theorem arrive (h : Stored s) (p : Port) (l : List Byte) : Stored (s.arrive p l) := by
  unfold State.arrive
  split
  · exact h.same ⟨rfl, rfl, rfl, fun _ => rfl⟩
  · refine Stored.dispatch ?_ p _
    exact h.same ⟨rfl, rfl, rfl, fun _ => rfl⟩

theorem reoffer (h : Stored s) (p : Port) : Stored (s.reoffer p) := by
  unfold State.reoffer
  split
  · split
    · split
      · refine Stored.place ?_ _ _
        exact h.same ⟨rfl, rfl, rfl, fun _ => rfl⟩
      · exact h
      · exact h
    · exact h
  all_goals exact h

theorem transmissionEnds (h : Stored s) (p : Port) (w : OnWire) (first : Bool) : Stored (s.transmissionEnds p w first) := by
  have idle : Stored ((s.countPort p .framesSent 1).modLink p fun l => { l with wire := none }) :=
    h.same ⟨rfl, rfl, rfl, fun _ => rfl⟩
  refine Stored.select ?_ p
  unfold State.ownerEnds
  split
  · have ended := idle.same (sameStorage_controlEnds _ p)
    unfold State.offerBoth
    split
    · exact (ended.reoffer p).opportunity p
    · exact (ended.opportunity p).reoffer p
  · split
    · rename_i k _
      refine idle.dropReturns ?_
      cases list : s.edge.returns.get k <;> simp [list]
    · exact idle
  · split
    · exact idle
    · exact idle.bundleEnds _ _

/-! ### The restart -/

theorem restarts (h : Stored s) : Stored s.restarts := by
  have started : Stored s.restartStarts := by
    unfold State.restartStarts
    split
    · exact h.same ⟨rfl, rfl, rfl, fun _ => rfl⟩
    · exact h
  have block : ∀ u, Stored u → ∀ b, Stored (u.restartBlock b) := fun u hu b => by
    unfold State.restartBlock
    split
    · refine Stored.blockRestarts ?_ b
      exact hu.same ⟨rfl, rfl, rfl, fun _ => rfl⟩
    · exact hu
  have selected : ∀ u, Stored u → ∀ p, Stored (s.selectAborted u p) := fun u hu p => by
    unfold State.selectAborted
    split
    · exact hu.select p
    · exact hu
  have all : Stored ((List.finRange 12).foldl (State.selectAborted s) (s.events.nextOrder.foldl State.restartBlock
      (s.restartStarts.modEvents fun e => { e with orders := e.orders.tail }))) :=
    List.foldlRecOn _ _ (List.foldlRecOn _ _ (started.same ⟨rfl, rfl, rfl, fun _ => rfl⟩) fun u hu b _ => block u hu b)
      fun u hu p _ => selected u hu p
  unfold State.restarts
  dsimp only
  split
  · exact h
  · split
    · exact all.takeRaise _
    · exact all

/-! ### Requests -/

theorem respond (h : Stored s) (p : Port) (c : ControlFrame) : Stored (s.respond p c) := by
  unfold State.respond
  split
  · refine Stored.place ?_ _ _
    exact h.same ⟨rfl, rfl, rfl, fun _ => rfl⟩
  · exact h.same (sameStorage_loseResponse s c)
  · exact h.same ⟨rfl, rfl, rfl, fun _ => rfl⟩

theorem takeRequest {row : RequestRow} {body : State → Request → State × Reply}
    (executed : ∀ {u : State} (r : Request), Stored u → Stored (body u r).1) (h : Stored s) :
    Stored (s.takeRequest row body) := by
  unfold State.takeRequest
  split
  · exact h
  · rename_i r rest _
    have taken : Stored (s.taken r rest) := h.same ⟨rfl, rfl, rfl, fun _ => rfl⟩
    split
    · refine Stored.respond ?_ _ _
      unfold State.execute
      split <;> [exact taken; split <;> [exact taken; exact executed r taken]]
    · exact h

/-- A request whose execution leaves the storage alone. -/
theorem takeRequest_of_same {row : RequestRow} {body : State → Request → State × Reply}
    (same : ∀ u r, SameStorage u (body u r).1) (h : Stored s) : Stored (s.takeRequest row body) :=
  takeRequest (fun r hu => hu.same (same _ r)) h

theorem eventAckBody (r : Request) (h : Stored s) : Stored (eventAckBody s r).1 := by
  unfold Machine.eventAckBody
  split
  · exact h
  · split
    · exact h
    · have acked : ∀ i f, Stored (s.modSlot i f) := fun _ _ => h.same ⟨rfl, rfl, rfl, fun _ => rfl⟩
      dsimp only
      split
      · exact acked _ _
      · exact (acked _ _).opportunity _

/-- One queue changes, but not what it holds. -/
theorem modQueue (h : Stored s) (q : QueueId) {f : Queue → Queue} (held : (f (s.queue q)).held = (s.queue q).held)
    (trunk : (f (s.queue q)).trunk = (s.queue q).trunk) (queue : (f (s.queue q)).Holds q (s.windowed q))
    (undrained : (f (s.queue q)).Undrained) : Stored (s.modQueue q f) := by
  refine h.of_ledger (q := q) (h.ledger.of_held q (fun j other => by simp [other]) (fun j _ => rfl) rfl rfl ?_ ?_)
    (fun j other => by simp [other]) (by simpa using undrained)
  · rw [State.heldBy, modQueue_queue_self, held, trunk]
    rfl
  · rw [modQueue_queue_self]
    exact queue

theorem queueStartBody (r : Request) (h : Stored s) : Stored (queueStartBody s r).1 := by
  refine onQueue_fst r (fun q => ?_) h
  split
  · rename_i off
    have holds := h.ledger.queue q
    refine h.modQueue q rfl rfl ⟨holds.place, holds.outstanding, holds.own, ?_, fun _ => holds.drain (by simp [off]), ?_⟩ ?_
    all_goals exact fun active => nomatch active
  · exact h
  · exact h

theorem queueHaltBody (r : Request) (h : Stored s) : Stored (queueHaltBody s r).1 := by
  refine onQueue_fst r (fun q => ?_) h
  split
  · exact h
  · exact h.halt q
  · exact h

theorem queueFlushBody (r : Request) (h : Stored s) : Stored (queueFlushBody s r).1 := by
  refine onQueue_fst r (fun q => ?_) h
  split
  · exact h
  · exact (h.closeOpen q .flush).offerClosed q _
  · exact h

theorem queuePurgeBody (r : Request) (h : Stored s) : Stored (queuePurgeBody s r).1 := by
  refine onQueue_fst r (fun q => ?_) h
  split
  · exact h
  · exact h.purge q
  · exact h.purge q

/-! ### Writes of items -/

theorem writeEdgeAdmin (h : Stored s) (k : EdgeId) (v : Nat) : Stored (s.writeEdgeAdmin k v).1 := by
  have disabled : ∀ on, Stored (s.modEdge fun e => { e with enabled := e.enabled.set k on }) := fun _ =>
    h.same ⟨rfl, rfl, rfl, fun _ => rfl⟩
  unfold State.writeEdgeAdmin
  split <;> [exact h; split <;> [exact disabled true; split <;> [skip; exact h]]]
  unfold State.edgeDisable
  dsimp only
  split
  · refine (disabled false).loseReturns ?_
    cases list : s.edge.returns.get k with
    | nil => simp [list]
    | cons f rest => simpa [list] using List.perm_append_comm (l₁ := [f]) (l₂ := rest)
  · refine (disabled false).loseReturns ?_
    simp

theorem writeTrunkAdmin (h : Stored s) (t : TrunkId) (v : Nat) : Stored (s.writeTrunkAdmin t v).1 := by
  have enabled : Stored (s.modTrunk t fun k => k.enable (s.link t.port).up) := h.modTrunk (by
    unfold Trunk.enable
    dsimp only
    split <;> rfl)
  unfold State.writeTrunkAdmin
  split <;> [skip; split <;> [skip; exact h]]
  · unfold State.trunkEnable
    dsimp only
    split
    · exact enabled.trunkSelect t
    · exact enabled
  · refine h.modTrunk ?_
    unfold Trunk.disable
    dsimp only
    split <;> rfl

/-- Items of the pool change. -/
theorem modPool (h : Stored s) {f : Pool → Pool} (pool : (f s.pool).Sound) (monitored : (f s.pool).Monitored)
    (inUse : ∀ a, ((f s.pool).accounts.get a).inUse = (s.pool.accounts.get a).inUse)
    (descriptors : (f s.pool).freeDescriptors = s.pool.freeDescriptors) : Stored (s.modPool f) :=
  ⟨h.ledger.of_pool (fun _ => rfl) (fun _ => rfl) pool monitored (fun q => inUse q.acct)
    ((inUse retAcct).trans h.ledger.returns) descriptors, h.undrained⟩

theorem writeReserve (h : Stored s) (a : AcctId) (n : Nat) (blocked : Bool) : Stored (s.writeReserve a n blocked).1 := by
  unfold State.writeReserve
  split
  · rename_i passes
    refine h.modPool (f := fun p => { p with accounts := p.accounts.upd a fun c => c.withReserve n })
      (h.ledger.pool.withReserve passes) h.ledger.monitored (fun j => ?_) rfl
    rw [Tab.get_upd]
    split <;> [(rename_i here; rw [here]; rfl); rfl]
  · exact h

theorem writeCap (h : Stored s) (a : AcctId) (n : Nat) (blocked : Bool) : Stored (s.writeCap a n blocked).1 := by
  unfold State.writeCap
  split
  · rename_i passes
    refine h.modPool (f := fun p => { p with accounts := p.accounts.upd a fun c => { c with cap := n } })
      (h.ledger.pool.withCap passes) h.ledger.monitored (fun j => ?_) rfl
    rw [Tab.get_upd]
    split <;> [(rename_i here; rw [here]); rfl]
  · exact h

theorem writeLowWater (h : Stored s) (v : Nat) : Stored (s.writeLowWater v).1 := by
  unfold State.writeLowWater
  split
  · exact h
  · rename_i inRange
    have low : 16 ≤ v ∧ v ≤ 1024 := by omega
    have sound : (s.modPool fun p => { p with lowWater := v }).monitor.pool.Sound := by
      rw [monitor_pool]
      exact (h.ledger.pool.withLowWater low).congr rfl rfl rfl
    refine ⟨h.ledger.of_pool (fun q => by simp) (windowed_of_trunks (by simp)) sound (monitor_monitored _) (fun q => ?_) ?_
      (by simp), fun q => by simpa using h.undrained q⟩
    · rw [monitor_account]
      rfl
    · rw [monitor_account, State.returnsHeld, monitor_edge]
      exact h.ledger.returns

/-- R76: the trunk port of a queue is written while it is OFF, when it holds nothing. -/
theorem writeQueueTrunk (h : Stored s) {q : QueueId} (off : s.isOff q = true) (t : TrunkId) :
    Stored (s.modQueue q fun u => { u with trunk := t }) := by
  have holds := h.ledger.queue q
  have isOff : (s.queue q).state = .off := by simpa [State.isOff] using off
  obtain ⟨held, window⟩ := holds.off isOff
  have windows : ∀ i, s.windowed q i = [] := fun i => by
    by_cases here : i = (s.queue q).trunk
    · rwa [here]
    · exact holds.place i here
  have outstanding : (s.queue q).outstanding = 0 := by rw [holds.outstanding, window]; rfl
  refine h.of_ledger (q := q) (h.ledger.of_held q (fun j other => by simp [other]) (fun j _ => rfl) rfl rfl ?_ ?_)
    (fun j other => by simp [other]) ?_
  · rw [State.heldBy, State.heldBy, modQueue_queue_self, window]
    exact List.Perm.of_eq (congrArg _ (congrArg _ (windows t)))
  · rw [modQueue_queue_self]
    exact ⟨fun i _ => windows i, by rw [outstanding]; exact (congrArg List.length (windows t)).symm, holds.own,
      fun _ => ⟨held, windows t⟩, holds.drain, holds.halting⟩
  · rw [modQueue_queue_self]
    exact h.undrained q

/-- The items of a queue that no storage condition speaks of. -/
theorem writeQueue (h : Stored s) (q : QueueId) {f : Queue → Queue} (write : ∀ u, f u = { u with
    priority := (f u).priority, profile := (f u).profile, drainLimit := (f u).drainLimit }) : Stored (s.modQueue q f) := by
  have holds := h.ledger.queue q
  refine h.modQueue q ?_ ?_ ?_ ?_ <;> rw [write]
  · rfl
  · exact ⟨holds.place, holds.outstanding, holds.own, holds.off, holds.drain, holds.halting⟩
  · exact h.undrained q

theorem writeItem (h : Stored s) (i : Item) (v : Nat) : Stored (s.writeItem i v).1 := by
  cases i with
  | ownAddress | lastResetCause | freeCells | freeDescriptors | generation | activeBank | syncState | timestamp
  | recordsLost | portLink | trunkState | queueState => exact h
  | defaultAction | defaultQueue =>
    dsimp only [State.writeItem]
    split
    · exact h
    · exact h.same ⟨rfl, rfl, rfl, fun _ => rfl⟩
  | leaseTime | directoryAge | threshold | frameLimit | ageLimit =>
    exact writeIf_fst h (h.same ⟨rfl, rfl, rfl, fun _ => rfl⟩)
  | arbitrationMode t | collector t | retryInterval t | retryLimit t | holdTime t => exact writeIf_fst h (h.modTrunk rfl)
  | windowSize t => exact writeIn_fst h fun _ _ => h.modTrunk rfl
  | poolLowWater => exact h.writeLowWater v
  | retReserve | queueReserve => exact h.writeReserve _ v _
  | retCap | queueCap => exact h.writeCap _ v _
  | portAdmin p =>
    dsimp only [State.writeItem]
    split
    · exact h.writeEdgeAdmin _ v
    · exact h.writeTrunkAdmin _ v
  | queueTrunk q =>
    dsimp only [State.writeItem]
    split
    · exact h
    · exact writeIn_fst h fun _ off => h.writeQueueTrunk off _
  | queuePriority q =>
    dsimp only [State.writeItem]
    split
    · exact h
    · exact h.writeQueue q fun _ => rfl
  | queueProfile q =>
    dsimp only [State.writeItem]
    split
    · exact h
    · exact writeIn_fst h fun _ _ => h.writeQueue q fun _ => rfl
  | queueDrainLimit q => exact writeIf_fst h (h.writeQueue q fun _ => rfl)

theorem writeItemBody (r : Request) (h : Stored s) : Stored (writeItemBody s r).1 := by
  unfold Machine.writeItemBody
  split
  · exact h
  · exact h.writeItem _ _

end Stored
end Sys2Proof.Machine
end


section
/-! SUPPORT. Every command keeps the storage invariant, and the invariants hold right after a hard reset (R58, R60, R64 to R66,
R69, R73, R86, R91, R155). -/

namespace Sys2Proof.Machine

/-! ### Right after a hard reset -/

theorem windowed_afterHardReset (straps : BitVec 6) (l : List Instr) (q : QueueId) (i : TrunkId) :
    (State.afterHardReset straps l).windowed q i = [] := by
  simp [State.windowed, Trunk.bundlesOf, State.trunk, State.afterHardReset, Trunk.reset]

theorem queue_afterHardReset (straps : BitVec 6) (l : List Instr) (q : QueueId) :
    (State.afterHardReset straps l).queue q = .reset := by
  simp [State.queue, State.afterHardReset]

/-- R60, R66, R73, R86: right after a hard reset nothing is stored, every cell is free and every queue is OFF. -/
theorem stored_afterHardReset (straps : BitVec 6) (l : List Instr) : Stored (State.afterHardReset straps l) := by
  have held : ∀ q, (State.afterHardReset straps l).heldBy q = [] := fun q => by
    rw [State.heldBy, windowed_afterHardReset, queue_afterHardReset]
    rfl
  have unused : ∀ a, ((State.afterHardReset straps l).account a).inUse = 0 := fun a => by
    rw [account_afterHardReset]
    split <;> rfl
  refine ⟨⟨Pool.Sound.reset, ?_, fun q => ?_, ?_, ?_, fun q => ?_⟩, fun q halting => ?_⟩
  · change Pool.reset.Monitored
    unfold Pool.Monitored
    decide
  · rw [held, unused]
    rfl
  · rw [unused]
    simp [State.returnsHeld, State.afterHardReset, Edge.reset, Tab.sum_map_list]
  · simp only [held, List.length_nil, Finset.sum_const_zero]
    rfl
  · have windows : (State.afterHardReset straps l).windowed q = fun _ => [] := funext fun i => windowed_afterHardReset straps l q i
    rw [queue_afterHardReset, windows]
    exact ⟨fun _ _ => rfl, rfl, fun _ hb => by simp [Queue.held, Queue.reset] at hb, fun _ => ⟨rfl, rfl⟩, fun _ => rfl,
      fun halting => nomatch halting⟩
  · rw [queue_afterHardReset] at halting
    cases halting

/-- Settles O60: the lists, the windows, the directory and the queues of the reset state are empty, and each part's invariant
is read off there. -/
theorem invariantsAtReset : Obligations.InvariantsAtReset := by
  refine ⟨capacities_afterHardReset _ _, fun i => ?_, (directoryOk_iff _).2 Edge.DirOk.reset, fun _ => consistent_afterHardReset _ _,
    (storageInv_iff _).2 (stored_afterHardReset _ _)⟩
  have slot : State.reset.slot i = .reset := by simp [State.slot, State.reset, State.afterHardReset, EventUnit.reset]
  rw [slot]
  unfold Slot.setsOk
  decide

/-! ### Every command -/

/-- Every command but the two of RESET_N acts through `live`, and leaves a storage that keeps its invariant. -/
theorem stored_exec {s : State} (c : Instr) (reset : ∀ straps, c ≠ .hardReset straps) (low : c ≠ .resetNLow) (h : Stored s) :
    ∃ u, exec c s = live s u ∧ Stored u := by
  cases c with
  | hardReset straps => exact absurd rfl (reset straps)
  | resetNLow => exact absurd rfl low
  | linkUp p =>
    refine ⟨_, rfl, ?_⟩
    split <;> [exact h; exact h.linkComesUp p]
  | linkDown p receiving =>
    refine ⟨_, rfl, ?_⟩
    split <;> [exact h.linkGoesDown p receiving; exact h]
  | receptionAborted p =>
    refine ⟨_, rfl, ?_⟩
    split <;> [exact h.same ⟨rfl, rfl, rfl, fun _ => rfl⟩; exact h]
  | frameArrival p l =>
    refine ⟨_, rfl, ?_⟩
    split <;> [exact h.arrive p l; exact h]
  | transmissionEnd p first =>
    refine ⟨_, rfl, ?_⟩
    split <;> [exact h; exact h.transmissionEnds p _ first]
  | directorySecondExpiry =>
    refine ⟨_, rfl, ?_⟩
    split <;> [exact h.same (by simp [SameStorage, Edge.secondPasses]); exact h]
  | ageDeadlineExpiry q =>
    refine ⟨_, rfl, ?_⟩
    split <;> [exact (h.closeOpen q .age).offerClosed q _; exact h]
  | drainDeadlineExpiry q =>
    refine ⟨_, rfl, ?_⟩
    split
    · rename_i due
      exact h.drainExpires due.1
    · exact h
  | holdDeadlineExpiry p =>
    refine ⟨_, rfl, ?_⟩
    split <;> [exact h; split <;> [exact h.holdExpires _; exact h]]
  | retryDeadlineExpiry p seq =>
    refine ⟨_, rfl, ?_⟩
    split
    · exact h
    · split
      · exact h
      · rename_i due
        exact h.retryExpires due
  | leaseDeadlineExpiry =>
    refine ⟨_, rfl, ?_⟩
    split <;> [exact h; split <;> [exact h.same (by simp [SameStorage, State.leaseExpires]); exact h]]
  | responseWaitExpiry =>
    refine ⟨_, rfl, ?_⟩
    split <;> [split <;> [exact h.same (sameStorage_loseResponse s _); exact h]; exact h; exact h; exact h]
  | repeatDeadlineExpiry i =>
    refine ⟨_, rfl, ?_⟩
    split
    · refine Stored.opportunity ?_ _
      exact h.same ⟨rfl, rfl, rfl, fun _ => rfl⟩
    · exact h
  | syncStep =>
    refine ⟨_, rfl, ?_⟩
    split <;> [split <;> [exact h.same (sameStorage_syncs s _); exact h]; exact h]
  | eventRaise b => exact ⟨_, rfl, h.takeArrival b⟩
  | restartBegin => exact ⟨_, rfl, h.restarts⟩
  | timestampTick => exact ⟨_, rfl, h.same ⟨rfl, rfl, rfl, fun _ => rfl⟩⟩
  | identify | restart | unknownRequestKind | tableClear | dirFlush =>
    exact ⟨_, rfl, h.takeRequest_of_same fun _ _ => ⟨rfl, rfl, rfl, fun _ => rfl⟩⟩
  | readItem => exact ⟨_, rfl, h.takeRequest_of_same (by simp [SameStorage])⟩
  | tableRead => exact ⟨_, rfl, h.takeRequest_of_same (by simp [SameStorage])⟩
  | readHits => exact ⟨_, rfl, h.takeRequest_of_same (by simp [SameStorage])⟩
  | queueStatus => exact ⟨_, rfl, h.takeRequest_of_same (by simp [SameStorage])⟩
  | dirRead => exact ⟨_, rfl, h.takeRequest_of_same (by simp [SameStorage])⟩
  | readEvents => exact ⟨_, rfl, h.takeRequest_of_same (by simp [SameStorage])⟩
  | readCounters => exact ⟨_, rfl, h.takeRequest_of_same (by simp [SameStorage])⟩
  | claim => exact ⟨_, rfl, h.takeRequest_of_same sameStorage_claimBody⟩
  | release => exact ⟨_, rfl, h.takeRequest_of_same sameStorage_releaseBody⟩
  | tableWrite => exact ⟨_, rfl, h.takeRequest_of_same sameStorage_tableWriteBody⟩
  | commit => exact ⟨_, rfl, h.takeRequest_of_same sameStorage_commitBody⟩
  | dirPin => exact ⟨_, rfl, h.takeRequest_of_same sameStorage_dirPinBody⟩
  | dirUnpin => exact ⟨_, rfl, h.takeRequest_of_same sameStorage_dirUnpinBody⟩
  | subscribe => exact ⟨_, rfl, h.takeRequest_of_same sameStorage_subscribeBody⟩
  | unsubscribe => exact ⟨_, rfl, h.takeRequest_of_same sameStorage_unsubscribeBody⟩
  | readEventsTake => exact ⟨_, rfl, h.takeRequest_of_same sameStorage_readEventsTakeBody⟩
  | readCountersClear => exact ⟨_, rfl, h.takeRequest_of_same sameStorage_readCountersClearBody⟩
  | eventAck => exact ⟨_, rfl, h.takeRequest fun r hu => hu.eventAckBody r⟩
  | queueStart => exact ⟨_, rfl, h.takeRequest fun r hu => hu.queueStartBody r⟩
  | queueHalt => exact ⟨_, rfl, h.takeRequest fun r hu => hu.queueHaltBody r⟩
  | queueFlush => exact ⟨_, rfl, h.takeRequest fun r hu => hu.queueFlushBody r⟩
  | queuePurge => exact ⟨_, rfl, h.takeRequest fun r hu => hu.queuePurgeBody r⟩
  | writeItem | writeEdgeAdminState | writeTrunkAdminEnabled | writeTrunkAdminDisabled | writeReserve | writeCap
  | writePoolLowWater => exact ⟨_, rfl, h.takeRequest fun r hu => hu.writeItemBody r⟩

theorem exec_stored (c : Instr) (s t : State) (h : Stored s) (ht : exec c s = .next t) : Stored t := by
  by_cases reset : ∃ straps, c = .hardReset straps
  · obtain ⟨straps, rfl⟩ := reset
    cases ht
    exact (stored_afterHardReset straps s.pending).same ⟨rfl, rfl, rfl, fun _ => rfl⟩
  · by_cases low : c = .resetNLow
    · subst low
      cases ht
      exact h.same ⟨rfl, rfl, rfl, fun _ => rfl⟩
    · obtain ⟨u, hexec, hu⟩ := stored_exec c (fun straps e => reset ⟨straps, e⟩) low h
      rw [hexec, live] at ht
      cases ht
      split
      · exact h
      · exact hu

/-- Settles O59: a step leaves the storage alone, moves batches between the lists that hold them, or changes what one queue or
the return lists hold together with what the pool charges for it. -/
theorem storageKept : Obligations.StorageKept := fun _ _ _ h ht =>
  (storageInv_iff _).2 (kept_by_step (P := Stored) (fun _ _ h => h.same ⟨rfl, rfl, rfl, fun _ => rfl⟩) exec_stored
    ((storageInv_iff _).1 h) ht)

end Sys2Proof.Machine
end


section
/-! SUPPORT. The comparison with low-water after a grant, a release and a low-water write, and the writes of the pool's items
(R61, R62, R64, R65, R69, R70). -/

namespace Sys2Proof.Machine

/-! ### The monitor's table -/

/-- R69: a comparison changes the monitor state and may raise an event. -/
theorem monitor_eq (s : State) : s.monitor =
    { s with pool := { s.pool with low := s.monitor.pool.low }, events := s.monitor.events } :=
  State.eq_of_fields (by simp) (by simp) (by simp) (by simp) (by simp) (by simp) (by simp) (monitor_pool s) (by simp)
    (by simp) (by simp) (by simp) rfl (by simp)

/-- R69: the monitor's table, a row for each state and each side of its bound. -/
theorem monitor_table (s : State) :
    (s.pool.low = false → s.pool.lowWater ≤ s.pool.freeCells → s.monitor.pool.low = false ∧ s.monitor.events = s.events) ∧
    (s.pool.low = false → s.pool.freeCells < s.pool.lowWater → s.monitor.pool.low = true ∧
      s.monitor.events = { s.events with
        raised := s.events.raised ++ [{ block := .cellPool, events := [raiseOf .poolLow 0 s.pool.freeCells] }] }) ∧
    (s.pool.low = true → s.pool.freeCells < s.pool.lowWater + 64 → s.monitor.pool.low = true ∧ s.monitor.events = s.events) ∧
    (s.pool.low = true → s.pool.lowWater + 64 ≤ s.pool.freeCells → s.monitor.pool.low = false ∧
      s.monitor.events = { s.events with
        raised := s.events.raised ++ [{ block := .cellPool, events := [raiseOf .poolRecovered 0 s.pool.freeCells] }] }) := by
  refine ⟨fun low above => ?_, fun low below => ?_, fun low below => ?_, fun low above => ?_⟩
  · rw [monitor_within (.inr ⟨low, above⟩)]
    exact ⟨low, rfl⟩
  · rw [monitor_falls low below]
    exact ⟨rfl, rfl⟩
  · rw [monitor_within (.inl ⟨low, below⟩)]
    exact ⟨low, rfl⟩
  · rw [monitor_recovers low above]
    exact ⟨rfl, rfl⟩

theorem release_of_ne {n : Nat} (some : n ≠ 0) (s : State) (a : AcctId) (d : Nat) :
    s.release a n d = (s.modPool fun p => p.give a n d).monitor :=
  if_neg some

/-- Settles O17: a grant and a release of some cells are a change of the pool and a comparison, which `monitor_table` gives. -/
theorem freeCellsAreMonitored : Obligations.FreeCellsAreMonitored := by
  intro s u a n d descriptor free account descriptors taken
  rcases taken with ⟨rfl, rfl, rfl, rfl⟩ | ⟨rfl, some, rfl, rfl, rfl⟩
  · have each : descriptor.toNat = if descriptor then 1 else 0 := by cases descriptor <;> rfl
    refine ⟨?_, monitor_table (s.modPool fun p => p.take a n descriptor)⟩
    rw [← each]
    exact monitor_eq (s.modPool fun p => p.take a n descriptor)
  · rw [release_of_ne some]
    exact ⟨monitor_eq (s.modPool fun p => p.give a n d), monitor_table (s.modPool fun p => p.give a n d)⟩

/-! ### Writes of the pool's items -/

theorem reserve_le_reserveSum (p : Pool) (a : AcctId) : (p.accounts.get a).reserve ≤ p.reserveSum := by
  rw [reserveSum_accounts]
  exact Finset.single_le_sum (f := fun j => (p.accounts.get j).reserve) (fun _ _ => Nat.zero_le _) (Finset.mem_univ a)

/-- R64: the tests of a reserve write; the sum of the reserves holds the present one, so the old can be taken off it. -/
theorem writeReserve_eq (s : State) (a : AcctId) (v : Nat) (blocked : Bool) : s.writeReserve a v blocked =
    if 256 < v then (s, .badValue)
    else if blocked then (s, .wrongState)
    else if (s.account a).cap < v then (s, .badValue)
    else if 1024 < s.pool.reserveSum - (s.account a).reserve + v then (s, .badValue)
    else if (s.account a).unused + s.pool.freeCells < (v - (s.account a).inUse) + s.pool.unusedSum then (s, .noResource)
    else (s.modPool fun p => { p with accounts := p.accounts.upd a fun c => c.withReserve v }, .ok) := by
  have held : (s.account a).reserve ≤ s.pool.reserveSum := reserve_le_reserveSum s.pool a
  have sum : 1024 < s.pool.reserveSum - (s.account a).reserve + v ↔
      Config.reserveSumMax + (s.account a).reserve < s.pool.reserveSum + v := by
    simp only [Config.reserveSumMax]
    omega
  simp only [sum]
  unfold State.writeReserve Pool.reserveTest
  by_cases range : 256 < v
  · rw [if_pos range, if_pos range]
  rw [if_neg range, if_neg range]
  cases blocked
  · by_cases cap : (s.pool.accounts.get a).cap < v
    · simp [State.account, cap]
    by_cases total : Config.reserveSumMax + (s.pool.accounts.get a).reserve < s.pool.reserveSum + v
    · simp [State.account, cap, total]
    by_cases covered : (s.pool.accounts.get a).unused + s.pool.freeCells <
        (v - (s.pool.accounts.get a).inUse) + s.pool.unusedSum
    all_goals
      simp only [Account.unused] at covered
      simp [State.account, Account.unused, Account.withReserve, cap, total, covered]
  · rfl

/-- R65: the tests of a cap write. -/
theorem writeCap_eq (s : State) (a : AcctId) (v : Nat) (blocked : Bool) : s.writeCap a v blocked =
    if v < 16 ∨ 2048 < v then (s, .badValue)
    else if blocked then (s, .wrongState)
    else if v < (s.account a).reserve ∨ v < (s.account a).inUse then (s, .badValue)
    else (s.modPool fun p => { p with accounts := p.accounts.upd a fun c => { c with cap := v } }, .ok) := by
  unfold State.writeCap Pool.capTest
  by_cases range : v < 16 ∨ 2048 < v
  · rw [if_pos range, if_pos range]
  rw [if_neg range, if_neg range]
  cases blocked
  · by_cases reserve : v < (s.pool.accounts.get a).reserve
    · simp [State.account, reserve]
    · by_cases inUse : v < (s.pool.accounts.get a).inUse <;> simp [State.account, reserve, inUse]
  · rfl

/-- Settles O43: a reserve or cap item is its account's, blocked by its queue's state; a low-water write is a change of the pool
and a comparison, which `monitor_table` gives. -/
theorem poolItemWrites : Obligations.PoolItemWrites := by
  refine ⟨fun s a i j blocked v account => ?_, fun s v => ⟨fun outside => ?_, fun above below => ?_⟩⟩
  · have writes : s.writeItem i v = s.writeReserve a v blocked ∧ s.writeItem j v = s.writeCap a v blocked := by
      rcases account with ⟨rfl, rfl, rfl, rfl⟩ | ⟨q, rfl, rfl, rfl, rfl⟩ <;> exact ⟨rfl, rfl⟩
    rw [writes.1, writes.2, writeReserve_eq, writeCap_eq]
    exact ⟨rfl, rfl⟩
  · exact if_pos outside
  · let x := s.modPool fun p => { p with lowWater := v }
    exact ⟨x.monitor, if_neg (by omega), monitor_eq x, monitor_table x⟩

end Sys2Proof.Machine
end


section
/-! SUPPORT. The release of one bundle (R62, R91, R125, R130) and a purge (R89). -/

namespace Sys2Proof.Machine

/-! ### The release of one bundle -/

section
variable (s : State) (t : TrunkId) (b : Bundle)

theorem releaseBundle_trunks : (s.releaseBundle t b).trunks =
    s.trunks.set t { s.trunk t with bundles := (s.trunk t).bundles.eraseP fun x => x.seq == b.seq } := by
  simp only [State.releaseBundle, modQueue_trunks, release_trunks]
  rfl

theorem releaseBundle_queues : (s.releaseBundle t b).queues = s.queues.set b.batch.queue
    { s.queue b.batch.queue with outstanding := (s.queue b.batch.queue).outstanding - 1 } := by
  simp only [State.releaseBundle, State.modQueue, release_queues]
  rfl

theorem releaseBundle_pool : (s.releaseBundle t b).pool =
    { s.pool.give b.batch.queue.acct b.batch.cells 1 with low := (s.releaseBundle t b).pool.low } := by
  simp only [State.releaseBundle, modQueue_pool]
  rw [release_pool]
  rfl

theorem releaseBundle_events : ∃ pool, (∀ a ∈ pool, a.block = Block.cellPool) ∧
    (s.releaseBundle t b).events = { s.events with raised := s.events.raised ++ pool } := by
  obtain ⟨pool, raised, only⟩ := release_raised (s.modTrunk t fun k => { k with
    bundles := k.bundles.eraseP fun x => x.seq == b.seq }) b.batch.queue.acct b.batch.cells 1
  refine ⟨pool, only, ?_⟩
  simp only [State.releaseBundle, modQueue_events]
  rw [release_events, raised]
  rfl
end

/-- R86: the drain completion test in its four conditions. -/
theorem drained_conditions (s : State) (q : QueueId) : s.drained q = true ↔ (s.queue q).state = .halting ∧
    (s.queue q).ready = [] ∧ (s.queue q).outstanding = 0 ∧ (s.account q.acct).inUse = 0 := by
  simp [State.drained, and_assoc]

/-- Settles O13: retirement and abandonment differ in what they count; each is the release, its count, and the drain completion
test. -/
theorem bundleIsReleased : Obligations.BundleIsReleased := by
  rintro t s b q rfl
  let u := ((s.releaseBundle t b).countQueue b.batch.queue .framesDelivered b.batch.members.length).countQueue
    b.batch.queue .bundlesAcked 1
  let v := ((s.releaseBundle t b).countQueue b.batch.queue .framesAbandoned b.batch.members.length).countTrunk
    t .bundlesAbandoned 1
  have retired : s.retire t b = u.drainTest b.batch.queue := rfl
  have abandoned : s.abandon t b = v.drainTest b.batch.queue := rfl
  have counters := releaseBundle_counters s t b
  refine ⟨u, v, ?_, ?_, ?_, ?_, rfl, ?_, releaseBundle_trunks s t b, releaseBundle_queues s t b, releaseBundle_pool s t b,
    releaseBundle_events s t b, ?_, ?_, fun x => drained_conditions x _⟩
  · rw [retired, drainTest_eq, apply_ite Prod.fst]
    rfl
  · rw [retired, drainTest_eq, apply_ite Prod.snd]
  · rw [abandoned, drainTest_eq, apply_ite Prod.fst]
    rfl
  · rw [abandoned, drainTest_eq, apply_ite Prod.snd]
  · apply State.eq_of_fields <;> simp [u]
  · simp only [u, State.countQueue, State.modCounters, counters]
  · simp only [v, State.countQueue, State.countTrunk, State.modCounters, counters]

/-! ### QUEUE_PURGE -/

/-- R89: the open and the ready batches are released and counted; the drain completion test is still to come. -/
def State.purged (s : State) (q : QueueId) : State :=
  ((s.modQueue q fun u => { u with openBatch := none, ready := [] }).release q.acct ((s.queue q).held.map Batch.cells).sum
    (s.queue q).held.length).countQueue q .framesPurged ((s.queue q).held.map fun b => b.members.length).sum

section
variable (s : State) (q : QueueId)

theorem purge_eq : s.purge q = ((s.purged q).drainTest q).1.raise .queueUnit ((s.purged q).drainTest q).2 := rfl

theorem purged_queue_self : (s.purged q).queue q = { s.queue q with openBatch := none, ready := [] } := by
  simp [State.purged]
theorem purged_queue_ne {i : QueueId} (other : i ≠ q) : (s.purged q).queue i = s.queue i := by
  simp [State.purged, other]
theorem purged_events : (s.purged q).events =
    (s.release q.acct ((s.queue q).held.map Batch.cells).sum (s.queue q).held.length).events :=
  (release_congr (s := s.modQueue q _) (t := s) rfl rfl _ _ _).2

theorem drained_purged : (s.purged q).drained q = true ↔ (s.queue q).state = .halting ∧ (s.queue q).outstanding = 0 ∧
    (s.account q.acct).inUse ≤ ((s.queue q).held.map Batch.cells).sum := by
  have inUse : ((s.purged q).account q.acct).inUse =
      (s.account q.acct).inUse - ((s.queue q).held.map Batch.cells).sum := by
    simp [State.purged]
  rw [drained_conditions, purged_queue_self, inUse, Nat.sub_eq_zero_iff_le]
  simp

theorem purge_pool : (s.purge q).pool =
    (s.release q.acct ((s.queue q).held.map Batch.cells).sum (s.queue q).held.length).pool := by
  rw [purge_eq, raise_pool, drainTest_fst_pool]
  exact (release_congr (s := s.modQueue q _) (t := s) rfl rfl _ _ _).1

theorem purge_counters : (s.purge q).counters =
    (s.countQueue q .framesPurged ((s.queue q).held.map fun b => b.members.length).sum).counters := by
  rw [purge_eq, raise_counters, drainTest_fst_counters]
  simp only [State.purged, State.countQueue, State.modCounters, release_counters]
  rfl

theorem purge_queue_ne {i : QueueId} (other : i ≠ q) : (s.purge q).queue i = s.queue i := by
  rw [purge_eq, raise_queue, drainTest_eq]
  split <;> simp [purged_queue_ne, other]

variable {s q}

/-- R86, R89: the purge of a HALTING queue that leaves it nothing turns it OFF. -/
theorem purge_drains (halting : (s.queue q).state = .halting) (outstanding : (s.queue q).outstanding = 0)
    (cells : (s.account q.acct).inUse ≤ ((s.queue q).held.map Batch.cells).sum) :
    (s.purge q).queue q = { s.queue q with state := .off, drain := none, openBatch := none, ready := [] } ∧
    (s.purge q).events = { s.events with raised :=
      (s.release q.acct ((s.queue q).held.map Batch.cells).sum (s.queue q).held.length).events.raised ++
        [{ block := .queueUnit, events := [raiseOf .queueOff q.val 1] }] } := by
  have drained := (drained_purged s q).2 ⟨halting, outstanding, cells⟩
  rw [purge_eq, drainTest_eq, if_pos drained]
  constructor
  · rw [raise_queue, modQueue_queue_self, purged_queue_self]
    rfl
  · rw [raise_eq]
    simp only [modQueue_events, purged_events]
    rw [release_events]
    rfl

/-- R89: any other purge leaves the queue's state. -/
theorem purge_keeps (undrained : (s.queue q).state ≠ .halting ∨ (s.queue q).outstanding ≠ 0 ∨
    ((s.queue q).held.map Batch.cells).sum < (s.account q.acct).inUse) :
    (s.purge q).queue q = { s.queue q with openBatch := none, ready := [] } ∧
    (s.purge q).events =
      (s.release q.acct ((s.queue q).held.map Batch.cells).sum (s.queue q).held.length).events := by
  have not : ¬ (s.purged q).drained q = true := fun drained => by
    obtain ⟨halting, outstanding, cells⟩ := (drained_purged s q).1 drained
    rcases undrained with other | some | more
    · exact other halting
    · exact some outstanding
    · exact Nat.not_lt.2 cells more
  rw [purge_eq, drainTest_eq, if_neg not]
  exact ⟨purged_queue_self s q, purged_events s q⟩

theorem exec_queuePurge {r : Request} {rest : List Request} {u : State} {st : Status} {data : List Byte}
    (admits : s.admits r rest .queuePurge)
    (outcome : queuePurgeBody (s.taken r rest) r = (u, { status := st, data := data })) :
    exec .queuePurge s = .next (u.answered r st data) :=
  row_answers_of_body admits (row_of_kind (kind_of_admits admits)) (by decide) outcome

theorem queuePurgeBody_eq {r : Request} (operand : (r.op 0).toNat = q.val) : queuePurgeBody s r =
    if (s.queue q).state = .off then (s, .done (be16n 0))
    else (s.purge q, .done (be16n ((s.queue q).held.map fun b => b.members.length).sum)) := by
  unfold queuePurgeBody onQueue
  rw [show index? 16 (r.opNat 0) = some q from index_of_eq operand]
  dsimp only
  split <;> simp [*]
end

/-- Settles O48: the body of the request at the queue that its operand names, and the purge by the drain completion test. -/
theorem queuePurge : Obligations.QueuePurge := by
  rintro s u r rest rfl admits
  refine ⟨fun above => exec_queuePurge admits ?_, fun q operand => ⟨fun off => exec_queuePurge admits ?_, ?_⟩⟩
  · unfold queuePurgeBody onQueue
    rw [show index? 16 (r.opNat 0) = none from index_none above]
    rfl
  · rw [queuePurgeBody_eq operand, taken_queue, if_pos off]
    rfl
  · rintro gone notOff rfl
    let u := s.taken r rest
    have released := release_congr (s := u) (t := s) rfl rfl q.acct ((u.queue q).held.map Batch.cells).sum (u.queue q).held.length
    refine ⟨u.purge q, exec_queuePurge admits ?_, ?_, ?_, purge_counters u q, fun i other => purge_queue_ne u q other,
      fun halting outstanding cells => ?_, fun undrained => ?_⟩
    · rw [queuePurgeBody_eq operand, taken_queue, if_neg notOff]
      rfl
    · apply State.eq_of_fields <;> simp [u]
    · exact (purge_pool u q).trans released.1
    · obtain ⟨queue, events⟩ := purge_drains (s := u) halting outstanding cells
      rw [released.2] at events
      exact ⟨queue, events⟩
    · have undrained : (u.queue q).state ≠ .halting ∨ (u.queue q).outstanding ≠ 0 ∨
          ((u.queue q).held.map Batch.cells).sum < (u.account q.acct).inUse :=
        undrained.imp_left fun active halting => by
          rw [show (u.queue q).state = .active from active] at halting
          cases halting
      obtain ⟨queue, events⟩ := purge_keeps undrained
      exact ⟨queue, events.trans released.2⟩

end Sys2Proof.Machine
end


section
/-! SUPPORT. The drain that ends by force (R87, R88). -/

namespace Sys2Proof.Machine

theorem onWire_iff (s : State) (t : TrunkId) (seq : Byte) : s.onWire t seq = true ↔
    ∃ w, (s.link t.port).wire = some w ∧ w.owner = .bundle seq := by
  unfold State.onWire
  cases (s.link t.port).wire <;> simp

/-- R8: a frame that a trunk port stops is counted. -/
theorem abort_counters_trunk {s : State} {t : TrunkId} {w : OnWire} (wire : (s.link t.port).wire = some w) :
    (s.abort t.port).counters.trunk = (s.countTrunk t .transmitAborted 1).counters.trunk := by
  simp only [State.abort, wire, side_trunk]
  rfl

theorem abort_counters_eq (s : State) (p : Port) :
    (s.abort p).counters = { s.counters with trunk := (s.abort p).counters.trunk } := by
  unfold State.abort
  split <;> [rfl; split <;> rfl]

section
variable (s : State) (q : QueueId)

/-- R88: a bundle of the queue is on the wire of its trunk port. -/
theorem sendsFor_iff : s.sendsFor (s.queue q).trunk q = true ↔
    ∃ b ∈ (s.trunk (s.queue q).trunk).bundlesOf q, s.onWire (s.queue q).trunk b.seq = true :=
  List.any_eq_true

theorem drainForced_eq : s.drainForced q = { s with
    links := (s.drainForced q).links
    pool := (s.drainForced q).pool
    queues := (s.drainForced q).queues
    trunks := (s.drainForced q).trunks
    events := (s.drainForced q).events
    counters := (s.drainForced q).counters } := by
  apply State.eq_of_fields <;> simp only [State.drainForced] <;> split <;> simp

theorem drainForced_counters : (s.drainForced q).counters = { s.counters with
    queue := (s.countQueue q .framesAbandoned ((s.drainGone q).map fun b => b.members.length).sum).counters.queue
    trunk := (s.drainForced q).counters.trunk } := by
  simp only [State.drainForced, raise_counters, modQueue_counters]
  simp only [State.countQueue, State.modCounters, release_counters, modTrunk_counters]
  split
  · rw [abort_counters_eq]
  · rfl

theorem drainForced_events : ∃ pool, (∀ a ∈ pool, a.block = Block.cellPool) ∧ (s.drainForced q).events = { s.events with
    raised := s.events.raised ++ pool ++ [{ block := .queueUnit, events := [raiseOf .queueOff q.val 2] }] } := by
  have released := release_congr (s := (if s.sendsFor (s.queue q).trunk q then s.abort (s.queue q).trunk.port else s).modTrunk
    (s.queue q).trunk fun k => { k with bundles := k.bundles.filter fun b => b.batch.queue != q }) (t := s)
    (by split <;> simp) (by split <;> simp) q.acct ((s.drainGone q).map Batch.cells).sum (s.drainGone q).length
  obtain ⟨pool, raised, only⟩ := release_raised s q.acct ((s.drainGone q).map Batch.cells).sum (s.drainGone q).length
  refine ⟨pool, only, ?_⟩
  rw [State.drainForced, raise_eq]
  simp only [modQueue_events, countQueue_events, released.2]
  rw [release_events, raised]
  rfl

variable {s q}

/-- R88: the bundle on the wire is stopped. -/
theorem drainForced_sending (sends : s.sendsFor (s.queue q).trunk q = true) :
    (∀ p, (s.drainForced q).link p = (s.abort (s.queue q).trunk.port).link p) ∧
    (s.drainForced q).counters.trunk = (s.countTrunk (s.queue q).trunk .transmitAborted 1).counters.trunk := by
  obtain ⟨b, -, onWire⟩ := (sendsFor_iff s q).1 sends
  obtain ⟨w, wire, -⟩ := (onWire_iff s _ _).1 onWire
  rw [← abort_counters_trunk wire, State.drainForced, if_pos sends]
  exact ⟨fun p => by simp, by simp⟩

theorem drainForced_notSending (idle : ¬ s.sendsFor (s.queue q).trunk q = true) :
    (s.drainForced q).links = s.links ∧ (s.drainForced q).counters.trunk = s.counters.trunk := by
  rw [State.drainForced, if_neg idle]
  exact ⟨by simp, by simp⟩
end

theorem exec_drainDeadlineExpiry {s : State} (high : s.resetLow = false) (q : QueueId) : exec (.drainDeadlineExpiry q) s =
    .next (if (s.queue q).state = .halting ∧ expired s.now (s.queue q).drain = true then s.drainExpires q else s) :=
  live_of_high high _

/-- Settles O27: the four steps of the forced end, each by its lemma, and the emptied window after them. -/
theorem drainDeadlineExpires : Obligations.DrainDeadlineExpires := by
  rintro q s j sent gone high rfl rfl rfl
  refine ⟨fun still => ?_, fun d drain ahead => ?_, fun d halting drain due => ⟨s.drainForced q, ?_, drainForced_eq s q,
    drainForced_queue_self s q, fun i other => drainForced_queue_ne s q other, drainForced_trunk_self s q,
    fun i other => drainForced_trunk_ne s q other, ?_, drainForced_counters s q, fun sending => ?_, fun idle => ?_,
    drainForced_events s q⟩⟩
  · rw [exec_drainDeadlineExpiry high, if_neg]
    rintro ⟨halting, due⟩
    rcases still with other | none
    · exact other halting
    · rw [none] at due
      cases due
  · rw [exec_drainDeadlineExpiry high, if_neg]
    rintro ⟨-, due⟩
    rw [drain, expired, ahead] at due
    cases due
  · rw [exec_drainDeadlineExpiry high, if_pos ⟨halting, drain ▸ due⟩, drainExpires_eq]
    simp [Trunk.bundlesOf]
  · rw [drainForced_pool]
    exact release_pool _ _ _ _
  · obtain ⟨links, counter⟩ := drainForced_sending ((sendsFor_iff s q).2 sending)
    exact ⟨by rw [links, abort_link_self], fun p other => by rw [links, abort_link_ne _ other], counter⟩
  · refine drainForced_notSending fun sends => ?_
    obtain ⟨b, mem, onWire⟩ := (sendsFor_iff s q).1 sends
    exact absurd ((idle b mem).symm.trans onWire) (by decide)

end Sys2Proof.Machine
end


section
/-! SUPPORT. Admission to a queue (R59 to R61, R77, R78, R104). -/

namespace Sys2Proof.Machine

/-! ### The tests of an admission -/

theorem test_of_noCells {p : Pool} {a : AcctId} {n : Nat} (d : Bool)
    (fails : (p.accounts.get a).cap < (p.accounts.get a).inUse + n ∨
      (p.accounts.get a).unused + p.freeCells < n + p.unusedSum) : p.test a n d = some .noCells := by
  unfold Pool.test
  split
  · rfl
  · rename_i within
    rw [if_pos (fails.resolve_left within)]

theorem test_of_cells {p : Pool} {a : AcctId} {n : Nat} (d : Bool)
    (cap : (p.accounts.get a).inUse + n ≤ (p.accounts.get a).cap)
    (free : n + p.unusedSum ≤ (p.accounts.get a).unused + p.freeCells) :
    p.test a n d = if d = true ∧ p.freeDescriptors = 0 then some .noBatch else none := by
  unfold Pool.test
  rw [if_neg (Nat.not_lt.2 cap), if_neg (Nat.not_lt.2 free)]
  simp

section
variable {s : State} {q : QueueId} {m : Member}

theorem enrol_inactive (inactive : (s.queue q).state ≠ .active) : s.enrol q m = s.countQueue q .queueNotActive 1 :=
  if_neg inactive

theorem enrol_noCells (active : (s.queue q).state = .active)
    (test : s.pool.test q.acct m.cells (!(s.queue q).fits m) = some .noCells) : s.enrol q m = s.countQueue q .noCells 1 := by
  simp only [State.enrol, if_pos active, test]

theorem enrol_noBatch (active : (s.queue q).state = .active)
    (test : s.pool.test q.acct m.cells (!(s.queue q).fits m) = some .noBatch) : s.enrol q m = s.countQueue q .noBatch 1 := by
  simp only [State.enrol, if_pos active, test]

/-! ### The member that is stored -/

/-- R80: a batch that closes with SIZE to make room is counted. -/
theorem store_counters : (s.store q m).counters =
    (if (s.queue q).fits m = false ∧ (s.queue q).openBatch.isSome = true then s.countQueue q .closedSize 1 else s).counters := by
  cases fits : (s.queue q).fits m
  · rw [State.store, if_neg (by simp [fits]), modQueue_counters]
    cases opened : (s.queue q).openBatch with
    | none => rw [closeOpen_none s .size opened, if_neg (by simp)]
    | some b => rw [closeOpen_some s .size opened, if_pos (by simp)]; rfl
  · rw [State.store, if_pos fits, if_neg (by simp)]
    rfl

/-- R78: the granted member in its queue, before the limits are tested. -/
def State.admitted (s : State) (q : QueueId) (m : Member) : State :=
  ((s.grantCells q.acct m.cells (!(s.queue q).fits m)).countQueue q .admitted 1).store q m

theorem enrol_granted (active : (s.queue q).state = .active)
    (test : s.pool.test q.acct m.cells (!(s.queue q).fits m) = none) :
    s.enrol q m = ((s.admitted q m).testLimits q).offerClosed q (s.queue q).ready.length := by
  simp only [State.enrol, if_pos active, test, State.admitted]

theorem admitted_eq : s.admitted q m = { s with
    pool := (s.admitted q m).pool
    queues := (s.admitted q m).queues
    events := (s.admitted q m).events
    counters := (s.admitted q m).counters } := by
  apply State.eq_of_fields <;> simp [State.admitted]

theorem admitted_counters : (s.admitted q m).counters =
    (if (s.queue q).fits m = false ∧ (s.queue q).openBatch.isSome = true then
      (s.countQueue q .admitted 1).countQueue q .closedSize 1
    else s.countQueue q .admitted 1).counters := by
  rw [State.admitted, store_counters]
  simp only [countQueue_queue, grantCells_queue]
  split <;> simp only [State.countQueue, State.modCounters, grantCells_counters]

theorem admitted_queue_ne {i : QueueId} (other : i ≠ q) : (s.admitted q m).queue i = s.queue i := by
  rw [State.admitted, store_queue_ne other, countQueue_queue, grantCells_queue]

theorem admitted_queue_fits (fits : (s.queue q).fits m = true) : (s.admitted q m).queue q = { s.queue q with
    openBatch := (s.queue q).openBatch.map fun b => { b with members := b.members ++ [m] } } := by
  rw [State.admitted, store_queue_fits (by simpa using fits), countQueue_queue, grantCells_queue]

theorem admitted_queue_opens (full : (s.queue q).fits m = false) : (s.admitted q m).queue q = { s.queue q with
    openBatch := some (s.openingBatch q m)
    ready := (s.queue q).ready ++ (s.queue q).openBatch.toList.map fun b => b.closed .size } := by
  rw [State.admitted, store_queue_opens (by simpa using full)]
  simp [State.openingBatch]
end

/-- R60, R64: a sum over the accounts. -/
theorem sum_accounts (p : Pool) (f : Account → Nat) :
    (p.accounts.list.map f).sum = ((List.finRange 17).map fun a => f (p.accounts.get a)).sum := by
  rw [Tab.list_eq_map_get, List.map_map]
  rfl

/-- Settles O16: the sizes by their definitions, the refusals by the outcome of the tests, and the member that is stored by
whether it fits the open batch. -/
theorem admissionToQueue : Obligations.AdmissionToQueue := by
  refine ⟨fun _ => rfl, rfl, fun _ => rfl, fun p => ⟨sum_accounts p _, sum_accounts p _⟩, fun _ => rfl, fun _ => ⟨rfl, rfl⟩,
    fun _ => rfl, fun q s before => ⟨fun closed => if_pos closed, fun none => if_neg (Nat.not_lt.2 none)⟩, ?_⟩
  intro q m s fits joins
  obtain rfl : fits = (s.queue q).fits m := Bool.eq_iff_iff.2 (joins.trans fits_iff.symm)
  refine ⟨enrol_inactive, fun active => ⟨fun fails => enrol_noCells active (test_of_noCells _ fails), fun cap free =>
    ⟨fun full noDescriptor => ?_, fun room => ⟨s.admitted q m, ?_, admitted_eq, ?_, ?_, admitted_counters,
      fun i other => admitted_queue_ne other, fun joined b opened => ?_, fun full => admitted_queue_opens full⟩⟩⟩⟩
  · refine enrol_noBatch active ((test_of_cells _ cap free).trans (if_pos ?_))
    exact ⟨by rw [full]; rfl, noDescriptor⟩
  · refine enrol_granted active ((test_of_cells _ cap free).trans (if_neg ?_))
    rintro ⟨full, noDescriptor⟩
    rcases room with fit | some
    · rw [fit] at full
      cases full
    · exact some noDescriptor
  · simp [State.admitted]
  · simp [State.admitted]
  · rw [admitted_queue_fits joined, opened]
    rfl

end Sys2Proof.Machine
end


section
/-! SUPPORT. LINK_DOWN at a trunk port (R8, R100, R102, R122): the abort, the bundle that it retires, and the hold. -/

namespace Sys2Proof.Machine

/-! ### A retirement depends on the pool, the queues and the queues' counters alone -/

section
variable {s u : State}

theorem monitor_pool_congr (pool : s.pool = u.pool) : s.monitor.pool = u.monitor.pool := by
  rw [monitor_pool s, monitor_pool u, monitor_low, monitor_low, pool]

theorem release_pool_congr (pool : s.pool = u.pool) (a : AcctId) (n d : Nat) :
    (s.release a n d).pool = (u.release a n d).pool := by
  have given : (s.modPool fun p => p.give a n d).pool = (u.modPool fun p => p.give a n d).pool := by simp [pool]
  unfold State.release
  split <;> [exact given; exact monitor_pool_congr given]

theorem drained_congr (pool : s.pool = u.pool) (queues : s.queues = u.queues) (q : QueueId) : s.drained q = u.drained q := by
  simp only [State.drained, State.queue, State.account, pool, queues]

theorem drainTest_queues_congr (pool : s.pool = u.pool) (queues : s.queues = u.queues) (q : QueueId) :
    (s.drainTest q).1.queues = (u.drainTest q).1.queues := by
  rw [drainTest_eq, drainTest_eq, drained_congr pool queues]
  split <;> simp [State.modQueue, queues]

/-- R125: whatever else differs between two states, a retirement does the same to the pool, the queues and their counters. -/
theorem retire_congr (pool : s.pool = u.pool) (queues : s.queues = u.queues) (counters : s.counters.queue = u.counters.queue)
    (t : TrunkId) (b : Bundle) : (s.retire t b).1.pool = (u.retire t b).1.pool ∧
    (s.retire t b).1.queues = (u.retire t b).1.queues ∧
    (s.retire t b).1.counters.queue = (u.retire t b).1.counters.queue := by
  have released : (s.releaseBundle t b).pool = (u.releaseBundle t b).pool := by
    simp only [State.releaseBundle, modQueue_pool]
    refine release_pool_congr ?_ _ _ _
    exact pool
  have left : (s.releaseBundle t b).queues = (u.releaseBundle t b).queues := by
    rw [releaseBundle_queues, releaseBundle_queues, State.queue, State.queue, queues]
  refine ⟨?_, ?_, ?_⟩
  · simpa only [State.retire, drainTest_fst_pool, countQueue_pool] using released
  · unfold State.retire
    refine drainTest_queues_congr ?_ ?_ _ <;> [exact released; exact left]
  · simp only [State.retire, drainTest_fst_counters, State.countQueue, State.modCounters, releaseBundle_counters, counters]
end

/-! ### What the abort leaves -/

section
variable (s : State) (t : TrunkId)

/-- R122: the transmission of a RETIRING bundle is aborted. -/
theorem windowAbort_retiring {u : State} {w : OnWire} {seq : Byte} {b : Bundle} (owner : w.owner = .bundle seq)
    (found : (u.trunk t).bundles.find? (fun x => x.seq == seq) = some b) (retiring : b.retiring = true) :
    u.windowAbort t (some w) = ((u.retire t b).1.raise .queueUnit (u.retire t b).2).windowEmptied t := by
  simp only [State.windowAbort, owner, found, if_pos retiring]

/-- R100, R122: the abort leaves the window alone, or it retires the bundle that it cuts off. -/
theorem abort_cases :
    (s.keptAtAbort t = (s.trunk t).bundles ∧
      ∀ u : State, u.trunk t = s.trunk t → u.windowAbort t (s.link t.port).wire = u) ∨
    ∃ b, (s.trunk t).bundles.find? (fun x => x.seq == b.seq) = some b ∧
      s.keptAtAbort t = (s.trunk t).bundles.eraseP (fun x => x.seq == b.seq) ∧
      ∀ u : State, u.trunk t = s.trunk t → u.windowAbort t (s.link t.port).wire =
        ((u.retire t b).1.raise .queueUnit (u.retire t b).2).windowEmptied t := by
  unfold State.keptAtAbort
  cases (s.link t.port).wire with
  | none => exact .inl ⟨rfl, fun _ _ => rfl⟩
  | some w =>
    cases owner : w.owner with
    | control | returnFrame => exact .inl ⟨by simp [owner], fun u _ => by simp [State.windowAbort, owner]⟩
    | bundle seq =>
      cases found : (s.trunk t).bundles.find? fun b => b.seq == seq with
      | none => exact .inl ⟨by simp [owner, found], fun u same => by simp [State.windowAbort, owner, same, found]⟩
      | some b =>
        obtain ⟨rfl, -⟩ := eraseP_of_find found
        cases retiring : b.retiring
        · exact .inl ⟨by simp [owner, found, retiring], fun u same => by
            simp [State.windowAbort, owner, same, found, retiring]⟩
        · exact .inr ⟨b, found, by simp [owner, found, retiring], fun u same =>
            windowAbort_retiring t owner (same ▸ found) retiring⟩

/-- R99, R100, R122: the trunk unit after the abort. -/
theorem cutBy_cases : (s.trunk t).cutBy (s.link t.port).wire = { s.trunk t with bundles := s.keptAtAbort t } ∨
    (s.trunk t).cutBy (s.link t.port).wire = ({ s.trunk t with bundles := s.keptAtAbort t } : Trunk).emptied := by
  rw [← windowAbort_trunk_self]
  rcases abort_cases s t with ⟨kept, same⟩ | ⟨b, -, kept, cut⟩
  · rw [same s rfl, kept]
    exact .inl rfl
  · rw [cut s rfl, windowEmptied_trunk_self, raise_trunk, retire_fst_trunk_self, kept]
    exact .inr rfl

variable {s t}

/-- R99: unless a STOPPING or HOLDING port's window is emptied, the abort changes the window alone. -/
theorem cutBy_eq (steady : s.keptAtAbort t ≠ [] ∨ (s.trunk t).state = .running ∨ (s.trunk t).state = .disabled) :
    (s.trunk t).cutBy (s.link t.port).wire = { s.trunk t with bundles := s.keptAtAbort t } := by
  rcases cutBy_cases s t with same | cut
  · exact same
  · rw [cut]
    rcases steady with filled | running | disabled
    · exact if_neg filled
    · simp [Trunk.emptied, running]
    · simp [Trunk.emptied, disabled]

/-- R99, R100: a STOPPING port whose window is empty after the abort is DISABLED, by the emptied window or by the report. -/
theorem linkDown_stopping_empty (stopping : (s.trunk t).state = .stopping) (empty : s.keptAtAbort t = []) (now : Word) :
    ((s.trunk t).cutBy (s.link t.port).wire).linkDown now = { s.trunk t with state := .disabled, bundles := [] } := by
  rcases cutBy_cases s t with same | cut
  · rw [same, empty]
    simp [Trunk.linkDown, stopping]
  · rw [cut, empty]
    simp [Trunk.emptied, Trunk.linkDown, stopping]
end

/-! ### The hold -/

section
variable {k : Trunk} {now : Word}

theorem linkDown_running_empty (running : k.state = .running) (empty : k.bundles = []) :
    k.linkDown now = { k with state := .waiting } := by
  simp [Trunk.linkDown, running, empty]

theorem linkDown_filled (enabled : k.state = .running ∨ k.state = .stopping) (filled : k.bundles ≠ []) : k.linkDown now =
    if k.holdTime = 0 then (k.enterHold now (k.state == .stopping)).holdEnds else k.enterHold now (k.state == .stopping) := by
  have other : (TrunkMode.running == .stopping) = false := rfl
  rcases enabled with running | stopping
  · simp [Trunk.linkDown, running, filled, other]
  · simp [Trunk.linkDown, stopping, filled]

theorem trunkLinkDown_expires {s : State} {t : TrunkId} (enabled : (s.trunk t).state = .running ∨ (s.trunk t).state = .stopping)
    (filled : (s.trunk t).bundles ≠ []) (noHold : (s.trunk t).holdTime = 0) : s.trunkLinkDown t =
    (s.modTrunk t fun k => k.enterHold s.now ((s.trunk t).state == .stopping)).holdExpires t := by
  have other : (TrunkMode.running == .stopping) = false := rfl
  rcases enabled with running | stopping
  · simp [State.trunkLinkDown, running, filled, noHold, other]
  · simp [State.trunkLinkDown, stopping, filled, noHold]

/-- R100: unless the hold expires in the same step, the report changes the trunk unit alone. -/
theorem trunkLinkDown_holds {s : State} {t : TrunkId} (holds : (s.trunk t).bundles = [] ∨ (s.trunk t).holdTime ≠ 0) :
    (s.trunkLinkDown t).pool = s.pool ∧ (s.trunkLinkDown t).queues = s.queues ∧
      (s.trunkLinkDown t).counters.queue = s.counters.queue := by
  unfold State.trunkLinkDown
  dsimp only
  cases mode : (s.trunk t).state with
  | disabled | waiting | holding => exact ⟨rfl, rfl, rfl⟩
  | running | stopping =>
    dsimp only
    split
    · exact ⟨rfl, rfl, rfl⟩
    · rename_i filled
      rw [if_neg (holds.resolve_left fun empty => filled (by rw [empty]; rfl))]
      exact ⟨rfl, rfl, rfl⟩
end

end Sys2Proof.Machine
end


section
/-! SUPPORT. LINK_DOWN at a trunk port: the storage after the abort and after a hold that expires at once (R62, R100, R102,
R122). -/

namespace Sys2Proof.Machine

/-! ### The storage after the abort -/

/-- R8, R62, R100, R122: what the report of DOWN and the abort do to the queues, the counters of abandonment, the pool and the
event unit; `gone` is the bundle that the abort retires, if it does. -/
structure State.AfterAbort (s u : State) (t : TrunkId) (gone kept : List Bundle) : Prop where
  window : (s.trunk t).bundles.Perm (gone ++ kept)
  outstanding : ∀ q, (u.queue q).outstanding =
    (s.queue q).outstanding - (gone.filter fun b => b.batch.queue == q).length
  framesAbandoned : ∀ q, u.queueCounter q .framesAbandoned = s.queueCounter q .framesAbandoned
  bundlesAbandoned : u.trunkCounter t .bundlesAbandoned = s.trunkCounter t .bundlesAbandoned
  freeDescriptors : u.pool.freeDescriptors = s.pool.freeDescriptors + gone.length
  freeCells : u.pool.freeCells = s.pool.freeCells + (gone.map fun b => b.batch.cells).sum
  events : ∃ others, (∀ a ∈ others, a.block = .linkLayer t.port ∨ a.block = .cellPool ∨ a.block = .queueUnit) ∧
    u.events = { s.events with raised := s.events.raised ++ others }

section
variable (s : State) (t : TrunkId) (b : Bundle)

theorem retire_fst_outstanding (q : QueueId) : ((s.retire t b).1.queue q).outstanding =
    (s.queue q).outstanding - if b.batch.queue = q then 1 else 0 := by
  simp only [State.retire, drainTest_fst_outstanding, countQueue_queue]
  split
  · rename_i own
    rw [← own, releaseBundle_queue_self]
  · rename_i other
    rw [releaseBundle_queue_ne s t b fun e => other e.symm]
    rfl

theorem retire_fst_framesAbandoned (q : QueueId) :
    (s.retire t b).1.queueCounter q .framesAbandoned = s.queueCounter q .framesAbandoned := by
  unfold State.retire
  rw [queueCounter_congr (congrArg Counters.queue (drainTest_fst_counters _ _)), countQueue_ne _ _ _ _ _ _ (.inr (by decide)),
    countQueue_ne _ _ _ _ _ _ (.inr (by decide))]
  exact queueCounter_congr (by simp) _ _

theorem retire_fst_pool : (s.retire t b).1.pool.freeCells = s.pool.freeCells + b.batch.cells ∧
    (s.retire t b).1.pool.freeDescriptors = s.pool.freeDescriptors + 1 := by
  simp [State.retire, State.releaseBundle]

/-- The report reaches the trunk unit with nothing changed that it looks at. -/
theorem downReported_storage (p : Port) (receiving : Bool) : (s.downReported p receiving).pool = s.pool ∧
    (s.downReported p receiving).queues = s.queues ∧ (s.downReported p receiving).trunks = s.trunks ∧
    (s.downReported p receiving).counters.queue = s.counters.queue ∧ (s.downReported p receiving).now = s.now := by
  cases receiving <;> simp [State.downReported]

theorem afterAbort (receiving : Bool) : ∃ gone, s.AfterAbort
    ((s.downReported t.port receiving).windowAbort t (s.link t.port).wire) t gone (s.keptAtAbort t) := by
  obtain ⟨pool, queues, trunks, counters, -⟩ := downReported_storage s t.port receiving
  have raised := downReported_events s t.port receiving
  have abandoned : (s.downReported t.port receiving).trunkCounter t .bundlesAbandoned = s.trunkCounter t .bundlesAbandoned := by
    simp [downReported_trunkCounter]
  have frames : ∀ q, (s.downReported t.port receiving).queueCounter q .framesAbandoned = s.queueCounter q .framesAbandoned :=
    fun q => queueCounter_congr counters q _
  have trunk : (s.downReported t.port receiving).trunk t = s.trunk t := by rw [State.trunk, trunks, State.trunk]
  have queue : ∀ q, (s.downReported t.port receiving).queue q = s.queue q := fun q => by rw [State.queue, queues, State.queue]
  generalize s.downReported t.port receiving = u at pool raised abandoned frames trunk queue
  rcases abort_cases s t with ⟨kept, same⟩ | ⟨b, found, kept, cut⟩
  · rw [same u trunk, kept]
    exact ⟨[], .refl _, by simp [queue], frames, abandoned, by simp [pool], by simp [pool], _, by simp, raised⟩
  · rw [cut u trunk, kept]
    obtain ⟨-, before, after, window, erased⟩ := eraseP_of_find found
    obtain ⟨cells, descriptors⟩ := retire_fst_pool u t b
    obtain ⟨released, only, events⟩ := retire_fst_events u t b
    refine ⟨[b], ?_, fun q => ?_, fun q => ?_, ?_, ?_, ?_, ?_⟩
    · rw [erased, window]
      exact List.perm_middle
    · rw [windowEmptied_queue, raise_queue, retire_fst_outstanding, queue]
      by_cases own : b.batch.queue = q <;> simp [own]
    · rw [← frames q, ← retire_fst_framesAbandoned u t b q]
      exact queueCounter_congr (by simp) _ _
    · rw [← abandoned]
      exact trunkCounter_congr (by simp) _ _
    · simp [descriptors, pool]
    · simp [cells, pool]
    · rw [windowEmptied_events, raise_eq, events, raised]
      refine ⟨[_] ++ (released ++ _), fun a ha => ?_, by simp only [List.append_assoc]; rfl⟩
      rcases List.mem_append.1 ha with link | later
      · exact .inl (by rw [List.mem_singleton.1 link])
      · rcases List.mem_append.1 later with cellPool | off
        · exact .inr (.inl (only a cellPool))
        · split at off
          · cases off
          · exact .inr (.inr (by rw [List.mem_singleton.1 off]))
end

/-! ### A hold that expires at once -/

/-- R100, R102: without a hold time every bundle that the abort leaves is abandoned in the same step. -/
theorem State.AfterAbort.expires {s u : State} {t : TrunkId} {gone kept : List Bundle} (h : s.AfterAbort u t gone kept)
    (trunk : (u.trunk t).bundles = kept) (stop : Bool) (v : State)
    (expired : v = (u.modTrunk t fun k => k.enterHold u.now stop).holdExpires t) :
    (∀ q, (v.queue q).outstanding = (s.queue q).outstanding - ((s.trunk t).bundlesOf q).length) ∧
    (∀ q, v.queueCounter q .framesAbandoned = satAdd (s.queueCounter q .framesAbandoned)
      ((kept.filter fun b => b.batch.queue == q).map fun b => b.batch.members.length).sum) ∧
    v.trunkCounter t .bundlesAbandoned = satAdd (s.trunkCounter t .bundlesAbandoned) kept.length ∧
    v.pool.freeDescriptors = s.pool.freeDescriptors + (s.trunk t).bundles.length ∧
    v.pool.freeCells = s.pool.freeCells + ((s.trunk t).bundles.map fun b => b.batch.cells).sum ∧
    (∃ others offs, (∀ a ∈ others, a.block = .linkLayer t.port ∨ a.block = .cellPool ∨ a.block = .queueUnit) ∧
      (∀ e ∈ offs, e.kind = .queueOff ∧ e.detail = 1) ∧
      v.events = { s.events with raised := s.events.raised ++ others ++ [{ block := .trunkUnit t, events :=
        offs ++ [raiseOf .holdExpired t.port.val kept.length] }] }) := by
  obtain ⟨-, -, outstanding, framesAbandoned, bundlesAbandoned, freeDescriptors, freeCells, pool, offs, onlyPool, onlyOffs,
    events⟩ := holdExpires_spec (u.modTrunk t fun k => k.enterHold u.now stop) t
  have held : ((u.modTrunk t fun k => k.enterHold u.now stop).trunk t).bundles =
      kept.map fun b => { b with retryDeadline := none } := by
    rw [modTrunk_trunk_self, ← trunk]
    rfl
  have filtered : ∀ q, ((u.modTrunk t fun k => k.enterHold u.now stop).trunk t).bundlesOf q =
      (kept.filter fun b => b.batch.queue == q).map fun b => { b with retryDeadline := none } := fun q => by
    rw [Trunk.bundlesOf, held, List.filter_map]
    rfl
  have cells := (h.window.map fun b => b.batch.cells).sum_eq
  have length := h.window.length_eq
  simp only [List.map_append, List.sum_append, List.length_append] at cells length
  subst expired
  refine ⟨fun q => ?_, fun q => ?_, ?_, ?_, ?_, ?_⟩
  · have split := (h.window.filter fun b => b.batch.queue == q).length_eq
    rw [List.filter_append, List.length_append] at split
    rw [outstanding, filtered, modTrunk_queue, h.outstanding, List.length_map, Nat.sub_sub, ← split]
    rfl
  · rw [framesAbandoned, filtered, List.map_map]
    congr 1
    exact h.framesAbandoned q
  · rw [bundlesAbandoned, held, List.length_map]
    congr 1
    exact h.bundlesAbandoned
  · rw [freeDescriptors, held, List.length_map, modTrunk_pool, h.freeDescriptors]
    omega
  · rw [freeCells, held, List.map_map, modTrunk_pool, h.freeCells, cells, Nat.add_assoc]
    rfl
  · obtain ⟨others, only, raised⟩ := h.events
    refine ⟨others ++ pool, offs, fun a ha => ?_, onlyOffs, ?_⟩
    · rcases List.mem_append.1 ha with before | cellPool
      · exact only a before
      · exact .inr (.inl (onlyPool a cellPool))
    · rw [events, held, List.length_map, modTrunk_events, raised]
      simp only [List.append_assoc]

/-! ### The report at a trunk port -/

section
variable (s : State) (j : TrunkId) (receiving : Bool)

theorem linkGoesDown_trunkPort : s.linkGoesDown j.port receiving =
    (((s.downReported j.port receiving).windowAbort j (s.link j.port).wire).trunkLinkDown j).mgmtLinkDown j.port
      (s.link j.port).control := by
  simp [linkGoesDown_eq, State.unitsLinkDown]

theorem reported_windowAbort_trunk : ((s.downReported j.port receiving).windowAbort j (s.link j.port).wire).trunk j =
    (s.trunk j).cutBy (s.link j.port).wire := by
  obtain ⟨-, -, trunks, -⟩ := downReported_storage s j.port receiving
  rw [windowAbort_trunk_self, State.trunk, trunks, State.trunk]

theorem linkGoesDown_edge_trunkPort : (s.linkGoesDown j.port receiving).edge = s.edge := by
  rw [linkGoesDown_trunkPort, mgmtLinkDown_edge, trunkLinkDown_edge, windowAbort_edge]
  cases receiving <;> simp [State.downReported]

variable {s j}

/-- R100: unless the hold expires in the same step, the storage is left as the abort leaves it. -/
theorem linkGoesDown_holds (holds : s.keptAtAbort j = [] ∨ (s.trunk j).holdTime ≠ 0) :
    (s.linkGoesDown j.port receiving).pool =
      ((s.downReported j.port receiving).windowAbort j (s.link j.port).wire).pool ∧
    (s.linkGoesDown j.port receiving).queues =
      ((s.downReported j.port receiving).windowAbort j (s.link j.port).wire).queues ∧
    (s.linkGoesDown j.port receiving).counters.queue =
      ((s.downReported j.port receiving).windowAbort j (s.link j.port).wire).counters.queue := by
  rw [linkGoesDown_trunkPort, mgmtLinkDown_pool, mgmtLinkDown_queues, mgmtLinkDown_counters_queue]
  refine trunkLinkDown_holds ?_
  rw [reported_windowAbort_trunk]
  rcases cutBy_cases s j with same | cut
  · rwa [same]
  · rw [cut, emptied_bundles]
    refine holds.imp_right fun hold => ?_
    rwa [show ({ s.trunk j with bundles := s.keptAtAbort j } : Trunk).emptied.holdTime = (s.trunk j).holdTime by
      unfold Trunk.emptied
      split <;> [split <;> rfl; rfl]]

theorem linkGoesDown_filled (enabled : (s.trunk j).state = .running ∨ (s.trunk j).state = .stopping)
    (filled : s.keptAtAbort j ≠ []) : (s.linkGoesDown j.port receiving).trunk j =
    if (s.trunk j).holdTime = 0 then
      (({ s.trunk j with bundles := s.keptAtAbort j } : Trunk).enterHold s.now ((s.trunk j).state == .stopping)).holdEnds
    else ({ s.trunk j with bundles := s.keptAtAbort j } : Trunk).enterHold s.now ((s.trunk j).state == .stopping) := by
  rw [Consistent.linkGoesDown_trunk_self, cutBy_eq (.inl filled)]
  exact linkDown_filled (k := { s.trunk j with bundles := s.keptAtAbort j }) enabled filled

/-- R100, R102: without a hold time, the abort and then the expiry. -/
theorem linkGoesDown_expires (enabled : (s.trunk j).state = .running ∨ (s.trunk j).state = .stopping)
    (filled : s.keptAtAbort j ≠ []) (noHold : (s.trunk j).holdTime = 0) :
    let u := (s.downReported j.port receiving).windowAbort j (s.link j.port).wire
    (u.trunk j).bundles = s.keptAtAbort j ∧ s.linkGoesDown j.port receiving =
      ((u.modTrunk j fun k => k.enterHold u.now ((s.trunk j).state == .stopping)).holdExpires j).mgmtLinkDown j.port
        (s.link j.port).control := by
  intro u
  have trunk : u.trunk j = { s.trunk j with bundles := s.keptAtAbort j } :=
    (reported_windowAbort_trunk s j receiving).trans (cutBy_eq (.inl filled))
  rw [linkGoesDown_trunkPort, trunkLinkDown_expires (by rwa [trunk]) (by rwa [trunk]) (by rwa [trunk]), trunk]
  exact ⟨rfl, rfl⟩
end

/-- Settles O8: the trunk unit by what the abort leaves it, and the storage by the abort and, without a hold time, the expiry
of the hold. -/
theorem linkDownAtTrunkPort : Obligations.LinkDownAtTrunkPort := by
  refine ⟨fun _ _ => rfl, ?_⟩
  rintro j receiving s kept high up rfl
  obtain ⟨pool, queues, trunks, counters, -⟩ := downReported_storage s j.port receiving
  have reported : (s.downReported j.port receiving).trunk j = s.trunk j := by rw [State.trunk, trunks, State.trunk]
  refine ⟨s.linkGoesDown j.port receiving, by rw [exec_linkDown high, if_pos up], fun i other => ?_,
    linkGoesDown_edge_trunkPort s j receiving, fun running empty => ?_, fun stopping empty => ?_,
    fun enabled filled hold => ?_, fun enabled filled noHold => ?_, fun disabled => ?_, fun whole holds => ?_,
    fun w seq b wire owner found retiring holds => ?_⟩
  · exact Consistent.linkGoesDown_trunk_ne s receiving fun e => other (trunkPort_inj.1 e)
  · rw [Consistent.linkGoesDown_trunk_self, cutBy_eq (.inr (.inl running)), empty]
    exact linkDown_running_empty (k := { s.trunk j with bundles := [] }) running rfl
  · rw [Consistent.linkGoesDown_trunk_self, linkDown_stopping_empty stopping empty]
  · rw [linkGoesDown_filled receiving enabled filled, if_neg hold]
    rfl
  · obtain ⟨gone, left⟩ := afterAbort s j receiving
    obtain ⟨bundles, down⟩ := linkGoesDown_expires receiving enabled filled noHold
    refine ⟨?_, ?_⟩
    · rw [linkGoesDown_filled receiving enabled filled, if_pos noHold]
      simp [Trunk.holdEnds, Trunk.enterHold]
    · obtain ⟨outstanding, framesAbandoned, bundlesAbandoned, freeDescriptors, freeCells, others, offs, onlyOthers, onlyOffs,
        events⟩ := left.expires bundles ((s.trunk j).state == .stopping) _ rfl
      rw [down]
      refine ⟨fun q => ?_, fun q => ?_, ?_, ?_, ?_, others, offs, onlyOthers, onlyOffs, ?_⟩
      · rw [mgmtLinkDown_queue, outstanding]
      · rw [queueCounter_congr (mgmtLinkDown_counters_queue _ _ _), framesAbandoned]
      · rw [trunkCounter_congr (mgmtLinkDown_counters_trunk _ _ _), bundlesAbandoned]
      · rw [mgmtLinkDown_pool, freeDescriptors]
      · rw [mgmtLinkDown_pool, freeCells]
      · rw [mgmtLinkDown_events, events]
        rfl
  · rw [Consistent.linkGoesDown_trunk_self, cutBy_eq (.inr (.inr disabled))]
    simp [Trunk.linkDown, disabled]
  · obtain ⟨pool', queues', counters'⟩ := linkGoesDown_holds receiving holds
    rw [pool', queues', counters']
    rcases abort_cases s j with ⟨-, same⟩ | ⟨b, found, kept, -⟩
    · rw [same _ reported]
      exact ⟨pool, queues, counters⟩
    · obtain ⟨-, before, after, window, erased⟩ := eraseP_of_find found
      have length := congrArg List.length (kept.symm.trans whole)
      rw [erased, window] at length
      simp at length
  · obtain ⟨pool', queues', counters'⟩ := linkGoesDown_holds receiving holds
    obtain ⟨retiredPool, retiredQueues, retiredCounters⟩ := retire_congr pool queues counters j b
    rw [pool', queues', counters', wire, windowAbort_retiring j owner (reported ▸ found) retiring]
    simp [retiredPool, retiredQueues, retiredCounters]

end Sys2Proof.Machine
end


section
/-! SUPPORT. When a deadline is reached (R167), and the open batch: its limits, its closing and its age deadline (R79 to R81,
R104). -/

namespace Sys2Proof.Machine

/-! ### Deadlines -/

theorem reached_iff (now d : Word) : reached now d = true ↔ (now - d).toNat < 2147483648 := decide_eq_true_iff

/-- R167: a deadline that is ahead by at most half the circle has not been reached. -/
theorem reached_before (d : Word) {ahead : Nat} (least : 1 ≤ ahead) (most : ahead ≤ 2147483648) :
    reached (d - BitVec.ofNat 32 ahead) d = false := by
  rw [← Bool.not_eq_true, reached_iff, sub_sub_cancel_left, BitVec.toNat_neg, BitVec.toNat_ofNat]
  omega

/-- R167, log 3: a deadline stays reached for less than half the circle. -/
theorem reached_after (d : Word) {late : Nat} (most : late < 2147483648) : reached (d + BitVec.ofNat 32 late) d = true := by
  rw [reached_iff, add_sub_cancel_left, BitVec.toNat_ofNat]
  omega

theorem reached_self (d : Word) : reached d d = true := by
  rw [reached_iff, sub_self]
  decide

/-! ### The open batch -/

section
variable {s : State} {q : QueueId} {b : Batch}

/-- R104: a batch that has joined the ready list is offered to the queue's trunk port. -/
theorem offerClosed_joined {before : Nat} (joined : before < (s.queue q).ready.length) :
    s.offerClosed q before = s.trunkSelect (s.queue q).trunk := if_pos joined
theorem offerClosed_same {before : Nat} (same : (s.queue q).ready.length = before) : s.offerClosed q before = s :=
  if_neg (by omega)

/-- R80: the queue after its open batch has closed. -/
theorem closeOpen_queue_some (r : CloseReason) (opened : (s.queue q).openBatch = some b) : (s.closeOpen q r).queue q =
    { s.queue q with openBatch := none, ready := (s.queue q).ready ++ [b.closed r] } := by
  rw [closeOpen_some s r opened, countQueue_queue, modQueue_queue_self]

/-- R80, R104: the batch closes and the arbiter is asked. -/
theorem closeOpen_offered (r : CloseReason) (opened : (s.queue q).openBatch = some b) :
    (s.closeOpen q r).offerClosed q (s.queue q).ready.length = (s.closeOpen q r).trunkSelect (s.queue q).trunk := by
  have queue := closeOpen_queue_some r opened
  rw [offerClosed_joined (by simp [queue]), queue]

/-- R79: the size is tested before the count. -/
theorem testLimits_some (opened : (s.queue q).openBatch = some b) : s.testLimits q =
    if b.byteSize = b.threshold then s.closeOpen q .size
    else if b.members.length = b.frameLimit then s.closeOpen q .count
    else s := by
  rw [State.testLimits, opened]

theorem ageDeadline_none (still : (s.queue q).openBatch = none ∨
    ∃ b, (s.queue q).openBatch = some b ∧ b.ageDeadline = none) : (s.queue q).ageDeadline = none := by
  rcases still with none | ⟨b, opened, noAge⟩
  · rw [Queue.ageDeadline, none, Option.bind_none]
  · rw [Queue.ageDeadline, opened, Option.bind_some, noAge]

theorem ageDeadline_some (opened : (s.queue q).openBatch = some b) : (s.queue q).ageDeadline = b.ageDeadline := by
  rw [Queue.ageDeadline, opened, Option.bind_some]

theorem exec_ageDeadlineExpiry (high : s.resetLow = false) (q : QueueId) : exec (.ageDeadlineExpiry q) s =
    .next (if expired s.now (s.queue q).ageDeadline = true then
      (s.closeOpen q .age).offerClosed q (s.queue q).ready.length else s) :=
  live_of_high high _
end

/-- Settles O18: the deadline by the difference on the circle, the limits and the closing by the open batch. -/
theorem openBatchCloses : Obligations.OpenBatchCloses := by
  refine ⟨rfl, rfl, rfl, rfl, rfl, fun q s high still => ?_,
    fun d => ⟨reached_self d, fun _ => reached_before d, fun _ => reached_after d⟩,
    fun q s b opened => ⟨fun r => closeOpen_some s r opened, fun size => ?_, fun small count => ?_, fun small few => ?_,
      fun high d age => ⟨fun due => ?_, fun ahead => ?_⟩⟩⟩
  · rw [exec_ageDeadlineExpiry high, ageDeadline_none still]
    rfl
  · rw [testLimits_some opened, if_pos size]
  · rw [testLimits_some opened, if_neg small, if_pos count]
  · rw [testLimits_some opened, if_neg small, if_neg few]
  · rw [exec_ageDeadlineExpiry high, ageDeadline_some opened, age, expired, if_pos due, closeOpen_offered .age opened]
  · rw [exec_ageDeadlineExpiry high, ageDeadline_some opened, age, expired,
      if_neg (Bool.eq_false_iff.1 ahead)]

end Sys2Proof.Machine
end


section
/-! SUPPORT. The hold that ends by its deadline (R102). -/

namespace Sys2Proof.Machine

theorem exec_holdDeadlineExpiry_edge {s : State} (high : s.resetLow = false) (k : EdgeId) :
    exec (.holdDeadlineExpiry k.port) s = .next s := by
  change live s _ = _
  rw [live_of_high high, side_edge]

theorem exec_holdDeadlineExpiry_trunk {s : State} (high : s.resetLow = false) (j : TrunkId) :
    exec (.holdDeadlineExpiry j.port) s = .next
      (if (s.trunk j).state = .holding ∧ expired s.now (s.trunk j).hold = true then s.holdExpires j else s) := by
  change live s _ = _
  rw [live_of_high high, side_trunk]

/-- R102: the links, the edge unit, the steering unit and the management unit are left alone. -/
theorem holdExpires_eq (s : State) (j : TrunkId) : s.holdExpires j = { s with
    pool := (s.holdExpires j).pool
    queues := (s.holdExpires j).queues
    trunks := (s.holdExpires j).trunks
    events := (s.holdExpires j).events
    counters := (s.holdExpires j).counters } := by
  apply State.eq_of_fields <;> simp

/-- Settles O28: the expiry acts in HOLDING at its deadline alone, and then does what abandoning the whole window does. -/
theorem holdDeadlineExpires : Obligations.HoldDeadlineExpires := by
  refine ⟨fun k s high => exec_holdDeadlineExpiry_edge high k, fun j s high => ⟨fun still => ?_, fun d hold ahead => ?_,
    fun d holding hold due => ⟨s.holdExpires j, ?_, holdExpires_eq s j, holdExpires_spec s j⟩⟩⟩
  · rw [exec_holdDeadlineExpiry_trunk high, if_neg]
    rintro ⟨holding, due⟩
    rcases still with other | none
    · exact other holding
    · rw [none] at due
      cases due
  · rw [exec_holdDeadlineExpiry_trunk high, if_neg]
    rintro ⟨-, due⟩
    rw [hold, expired, ahead] at due
    cases due
  · rw [exec_holdDeadlineExpiry_trunk high, if_pos ⟨holding, hold ▸ due⟩]

end Sys2Proof.Machine
end


section
/-! SUPPORT. The requests QUEUE_START, QUEUE_FLUSH and QUEUE_HALT (R83 to R86, R104, R140). -/

namespace Sys2Proof.Machine

section
variable {s u : State} {r : Request} {rest : List Request} {st : Status} {data : List Byte}

theorem exec_queueStart (admits : s.admits r rest .queueStart)
    (outcome : queueStartBody (s.taken r rest) r = (u, { status := st, data := data })) :
    exec .queueStart s = .next (u.answered r st data) :=
  row_answers_of_body admits (row_of_kind (kind_of_admits admits)) (by decide) outcome

theorem exec_queueFlush (admits : s.admits r rest .queueFlush)
    (outcome : queueFlushBody (s.taken r rest) r = (u, { status := st, data := data })) :
    exec .queueFlush s = .next (u.answered r st data) :=
  row_answers_of_body admits (row_of_kind (kind_of_admits admits)) (by decide) outcome

theorem exec_queueHalt (admits : s.admits r rest .queueHalt)
    (outcome : queueHaltBody (s.taken r rest) r = (u, { status := st, data := data })) :
    exec .queueHalt s = .next (u.answered r st data) :=
  row_answers_of_body admits (row_of_kind (kind_of_admits admits)) (by decide) outcome
end

section
variable {s : State} {q : QueueId} {b : Batch}

/-! ### The queue that the operand names (R83) -/

theorem onQueue_badIndex {r : Request} (above : 16 ≤ (r.op 0).toNat) (f : QueueId → State × Reply) :
    onQueue s r f = (s, .refuse .badIndex) := by
  rw [onQueue, Request.opNat, index_none above]
theorem onQueue_names {r : Request} (names : (r.op 0).toNat = q.val) (f : QueueId → State × Reply) :
    onQueue s r f = f q := by
  rw [onQueue, Request.opNat, index_of_eq names]

/-! ### Changes of one queue -/

/-- Only what a change makes of the queue as it stands counts. -/
theorem modQueue_congr {f g : Queue → Queue} (agree : f (s.queue q) = g (s.queue q)) : s.modQueue q f = s.modQueue q g := by
  have same : f (s.queues.get q) = g (s.queues.get q) := agree
  simp only [State.modQueue, Tab.upd, same]

theorem modQueue_modQueue (f g : Queue → Queue) : (s.modQueue q f).modQueue q g = s.modQueue q (g ∘ f) := by
  have queues : (s.queues.upd q f).upd q g = s.queues.upd q (g ∘ f) := Tab.ext_get fun i => by
    by_cases here : i = q
    · rw [here, Tab.get_upd_self, Tab.get_upd_self, Tab.get_upd_self, Function.comp_apply]
    · rw [Tab.get_upd_ne _ _ here, Tab.get_upd_ne _ _ here, Tab.get_upd_ne _ _ here]
  simp only [State.modQueue, queues]

/-! ### The halt -/

/-- R85: the queue turns HALTING, with this drain deadline. -/
def Queue.halted (deadline : Word) (u : Queue) : Queue := { u with state := .halting, drain := some deadline }

/-- R85: the drain deadline that a halt now sets. -/
def State.haltDeadline (s : State) (q : QueueId) : Word := deadlineAfter s.now (1000 * (s.queue q).drainLimit)

/-- R85: the part when the queue has turned HALTING; the drain completion test is still to come. -/
def State.halted (s : State) (q : QueueId) : State := (s.closeOpen q .halt).modQueue q (Queue.halted (s.haltDeadline q))

theorem halt_eq : s.halt q = (((s.halted q).drainTest q).1.raise .queueUnit ((s.halted q).drainTest q).2).offerClosed q
    (s.queue q).ready.length := by
  have limit : ((s.closeOpen q .halt).queue q).drainLimit = (s.queue q).drainLimit := by
    cases opened : (s.queue q).openBatch with
    | none => rw [closeOpen_none s .halt opened]
    | some b => rw [closeOpen_queue_some .halt opened]
  have halted : s.halted q = (s.closeOpen q .halt).modQueue q fun u =>
      u.halted (deadlineAfter s.now (1000 * u.drainLimit)) :=
    modQueue_congr (by rw [limit, State.haltDeadline])
  rw [halted]
  rfl

theorem halt_undrained (undrained : ¬ (s.halted q).drained q = true) :
    s.halt q = (s.halted q).offerClosed q (s.queue q).ready.length := by
  rw [halt_eq, drainTest_eq, if_neg undrained, raise_nil]

/-- R85, R104: the open batch closes and the arbiter is asked; the queue holds that batch and so does not drain. -/
theorem halt_opened (opened : (s.queue q).openBatch = some b) :
    s.halt q = (s.halted q).trunkSelect (s.queue q).trunk := by
  have queue : (s.halted q).queue q = Queue.halted (s.haltDeadline q)
      { s.queue q with openBatch := none, ready := (s.queue q).ready ++ [b.closed .halt] } := by
    rw [State.halted, modQueue_queue_self, closeOpen_queue_some .halt opened]
  have ready : ((s.halted q).queue q).ready = (s.queue q).ready ++ [b.closed .halt] := by rw [queue, Queue.halted]
  rw [halt_undrained, offerClosed_joined (by simp [ready]), queue, Queue.halted]
  intro drained
  obtain ⟨-, empty, -⟩ := (drained_conditions _ q).1 drained
  simp [ready] at empty

variable (closed : (s.queue q).openBatch = none)
include closed

theorem halted_closed : s.halted q = s.modQueue q (Queue.halted (s.haltDeadline q)) := by
  rw [State.halted, closeOpen_none s .halt closed]

theorem drained_halted_closed : (s.halted q).drained q = true ↔
    (s.queue q).ready = [] ∧ (s.queue q).outstanding = 0 ∧ (s.account q.acct).inUse = 0 := by
  rw [drained_conditions, halted_closed closed, modQueue_queue_self, modQueue_account]
  simp [Queue.halted]

/-- R85: a queue that still holds something stays HALTING. -/
theorem halt_waits (holds : (s.queue q).ready ≠ [] ∨ (s.queue q).outstanding ≠ 0 ∨ (s.account q.acct).inUse ≠ 0) :
    s.halt q = s.modQueue q (Queue.halted (s.haltDeadline q)) := by
  rw [halt_undrained, offerClosed_same, halted_closed closed]
  · rw [halted_closed closed, modQueue_queue_self, Queue.halted]
  · intro drained
    obtain ⟨ready, outstanding, inUse⟩ := (drained_halted_closed closed).1 drained
    rcases holds with some | some | some
    · exact some ready
    · exact some outstanding
    · exact some inUse

/-- R85, R86: a queue that holds nothing is OFF in the same step. -/
theorem halt_drains (ready : (s.queue q).ready = []) (outstanding : (s.queue q).outstanding = 0)
    (inUse : (s.account q.acct).inUse = 0) :
    s.halt q = (s.modQueue q Queue.turnedOff).raise .queueUnit [raiseOf .queueOff q.val 1] := by
  have drained := (drained_halted_closed closed).2 ⟨ready, outstanding, inUse⟩
  have off : (s.halted q).modQueue q Queue.turnedOff = s.modQueue q Queue.turnedOff := by
    rw [halted_closed closed, modQueue_modQueue]
    rfl
  rw [halt_eq, drainTest_eq, if_pos drained, off, offerClosed_same]
  rw [raise_queue, modQueue_queue_self, Queue.turnedOff]
end

/-! ### The bodies, by the state of the queue -/

section
variable {s : State} {q : QueueId} {b : Batch} {r : Request} (names : (r.op 0).toNat = q.val)
include names

theorem queueStartBody_names : queueStartBody s r =
    match (s.queue q).state with
    | .off => (s.modQueue q fun u => { u with state := .active }, .done [])
    | .active => (s, .done [])
    | .halting => (s, .refuse .wrongState) :=
  onQueue_names names _

theorem queueFlushBody_names : queueFlushBody s r =
    match (s.queue q).state with
    | .off => (s, .refuse .wrongState)
    | .active => ((s.closeOpen q .flush).offerClosed q (s.queue q).ready.length, .done [byteOf (s.queue q).openCount])
    | .halting => (s, .done [0]) :=
  onQueue_names names _

theorem queueHaltBody_names : queueHaltBody s r =
    match (s.queue q).state with
    | .off => (s, .refuse .wrongState)
    | .active => (s.halt q, .done [])
    | .halting => (s, .done []) :=
  onQueue_names names _

theorem queueFlushBody_closed (active : (s.queue q).state = .active) (closed : (s.queue q).openBatch = none) :
    queueFlushBody s r = (s, .done [0]) := by
  rw [queueFlushBody_names names, active, closeOpen_none s .flush closed, offerClosed_same rfl, Queue.openCount, closed]
  rfl

theorem queueFlushBody_opened (active : (s.queue q).state = .active) (opened : (s.queue q).openBatch = some b) :
    queueFlushBody s r =
      ((s.closeOpen q .flush).trunkSelect (s.queue q).trunk, .done [byteOf b.members.length]) := by
  rw [queueFlushBody_names names, active, closeOpen_offered .flush opened, Queue.openCount, opened]
  rfl
end

/-- Settles O46: both bodies by the state of the queue that the operand names, FLUSH also by its open batch. -/
theorem queueStartAndFlush : Obligations.QueueStartAndFlush := by
  rintro s u r rest rfl
  have taken : ∀ q, (s.taken r rest).queue q = s.queue q := taken_queue s r rest
  refine ⟨fun admits => ⟨fun above => exec_queueStart admits (onQueue_badIndex above _), fun q names =>
      ⟨fun off => exec_queueStart admits ?_, fun active => exec_queueStart admits ?_,
        fun halting => exec_queueStart admits ?_⟩⟩,
    fun admits => ⟨fun above => exec_queueFlush admits (onQueue_badIndex above _), fun q names =>
      ⟨fun off => exec_queueFlush admits ?_, fun halting => exec_queueFlush admits ?_,
        fun active closed => exec_queueFlush admits (queueFlushBody_closed names (by rwa [taken]) (by rwa [taken])),
        fun b active opened => ?_⟩⟩⟩
  · rw [queueStartBody_names names, taken, off]
    rfl
  · rw [queueStartBody_names names, taken, active]
    rfl
  · rw [queueStartBody_names names, taken, halting]
    rfl
  · rw [queueFlushBody_names names, taken, off]
    rfl
  · rw [queueFlushBody_names names, taken, halting]
    rfl
  · have flushed := exec_queueFlush admits (queueFlushBody_opened names (by rwa [taken]) (by rwa [taken]))
    rwa [taken] at flushed

/-- Settles O47: the body by the state of the queue that the operand names, and the halt by the open batch and by what the
queue still holds. -/
theorem queueHalt : Obligations.QueueHalt := by
  rintro s u r rest rfl admits
  have taken : ∀ q, (s.taken r rest).queue q = s.queue q := taken_queue s r rest
  refine ⟨fun above => exec_queueHalt admits (onQueue_badIndex above _), ?_⟩
  rintro q names h rfl
  have halts : (s.queue q).state = .active →
      queueHaltBody (s.taken r rest) r = ((s.taken r rest).halt q, .done []) := fun active => by
    rw [queueHaltBody_names names, taken, active]
  have deadline : (s.taken r rest).haltDeadline q = s.now + BitVec.ofNat 32 (1000 * (s.queue q).drainLimit) := by
    rw [State.haltDeadline, taken, taken_now, deadlineAfter]
  refine ⟨fun off => exec_queueHalt admits ?_, fun halting => exec_queueHalt admits ?_,
    fun b active opened => exec_queueHalt admits ?_, fun active closed => ⟨fun holds => exec_queueHalt admits ?_,
      fun ready outstanding inUse => exec_queueHalt admits ?_⟩⟩
  · rw [queueHaltBody_names names, taken, off]
    rfl
  · rw [queueHaltBody_names names, taken, halting]
    rfl
  · rw [halts active, halt_opened (by rwa [taken]), taken, State.halted, deadline]
    rfl
  · rw [halts active, halt_waits (by rwa [taken]) (by rwa [taken, taken_account]), deadline]
    rfl
  · rw [halts active, halt_drains (by rwa [taken]) (by rwa [taken]) (by rwa [taken]) (by rwa [taken_account])]
    rfl

end Sys2Proof.Machine
end


section
/-! SUPPORT. READ_COUNTERS (R92, R115, R162 to R164). -/

namespace Sys2Proof.Machine

/-! ### The names of the groups -/

theorem groupName_port (p : Port) : Group.ofName 1 p.val = some (.port p) := by
  rw [Group.ofName, index_of_eq rfl, Option.map_some]
theorem groupName_queue (q : QueueId) : Group.ofName 2 q.val = some (.queue q) := by
  rw [Group.ofName, index_of_eq rfl, Option.map_some]
theorem groupName_trunk (t : TrunkId) : Group.ofName 4 (8 + t.val) = some (.trunk t) := by
  rw [Group.ofName, if_neg (by omega), index_of_eq (Nat.add_sub_cancel_left ..), Option.map_some]

/-- R163: every other name names no group. -/
theorem groupName_none {code inst : Nat} (noPort : ¬ (code = 1 ∧ inst < 12)) (noQueue : ¬ (code = 2 ∧ inst < 16))
    (noTrunk : ¬ (code = 4 ∧ 8 ≤ inst ∧ inst < 12)) (noMgmt : ¬ (code = 5 ∧ inst = 0)) :
    Group.ofName code inst = none := by
  unfold Group.ofName
  split
  · rw [index_none (by omega), Option.map_none]
  · rw [index_none (by omega), Option.map_none]
  · split
    · rfl
    · rw [index_none (by omega), Option.map_none]
  · exact if_neg (by omega)
  · rfl

/-! ### The two rows -/

section
variable {s u : State} {r : Request} {rest : List Request} {st : Status} {data : List Byte} {g : Group}
  (admits : s.admits r rest .readCounters)
include admits

theorem exec_readCounters (keep : r.flags.getLsbD 0 = false)
    (outcome : readCountersBody (s.taken r rest) r = (u, { status := st, data := data })) :
    exec .readCounters s = .next (u.answered r st data) :=
  row_answers_of_body admits ((row_of_kind (kind_of_admits admits)).trans (if_neg (Bool.eq_false_iff.1 keep))) (by decide)
    outcome

theorem exec_readCountersClear (clear : r.flags.getLsbD 0 = true)
    (outcome : readCountersClearBody (s.taken r rest) r = (u, { status := st, data := data })) :
    exec .readCountersClear s = .next (u.answered r st data) :=
  row_answers_of_body admits ((row_of_kind (kind_of_admits admits)).trans (if_pos clear)) (by decide) outcome

/-- R163, R164: a request that names a group. -/
theorem readCounters_named (named : r.group = some g) :
    (r.flags.getLsbD 0 = false → exec .readCounters s =
      .next ((s.taken r rest).answered r .ok ((s.taken r rest).counters.bytes g))) ∧
    (r.flags.getLsbD 0 = true → exec .readCountersClear s =
      .next (((s.taken r rest).modCounters fun c => c.clear g).answered r .ok ((s.taken r rest).counters.bytes g))) := by
  refine ⟨fun keep => exec_readCounters admits keep ?_, fun clear => exec_readCountersClear admits clear ?_⟩
  · rw [readCountersBody, named]
    rfl
  · rw [readCountersClearBody, named]
    rfl

theorem readCounters_unnamed (unnamed : r.group = none) :
    (r.flags.getLsbD 0 = false → exec .readCounters s = .next ((s.taken r rest).answered r .badIndex [])) ∧
    (r.flags.getLsbD 0 = true → exec .readCountersClear s = .next ((s.taken r rest).answered r .badIndex [])) := by
  refine ⟨fun keep => exec_readCounters admits keep ?_, fun clear => exec_readCountersClear admits clear ?_⟩
  · rw [readCountersBody, unnamed]
    rfl
  · rw [readCountersClearBody, unnamed]
    rfl
end

theorem group_eq {r : Request} {code inst : Nat} (group : (r.op 0).toNat = code) (number : (r.op 1).toNat = inst) :
    r.group = Group.ofName code inst := by
  rw [Request.group, Request.opNat, Request.opNat, group, number]

/-- Settles O53: the places and the counts by their definitions, and both rows by the group that the operands name. -/
theorem countersCountAndAnswer : Obligations.CountersCountAndAnswer := by
  refine ⟨rfl, rfl, rfl, rfl, fun _ _ _ => rfl, fun _ _ _ => rfl, fun _ _ _ => rfl, fun _ _ => rfl, satAdd_toNat,
    fun _ _ _ _ => rfl, fun _ _ _ _ => rfl, fun _ _ _ _ => rfl, fun _ _ _ => rfl, ?_⟩
  rintro s u r rest rfl admits
  exact ⟨fun p group number => readCounters_named (g := .port p) admits
      ((group_eq group number).trans (groupName_port p)),
    fun q group number => readCounters_named (g := .queue q) admits
      ((group_eq group number).trans (groupName_queue q)),
    fun t group number => readCounters_named (g := .trunk t) admits
      ((group_eq group number).trans (groupName_trunk t)),
    fun group number => readCounters_named (g := .mgmt) admits (group_eq group number),
    fun noPort noQueue noTrunk noMgmt =>
      readCounters_unnamed admits ((group_eq rfl rfl).trans (groupName_none noPort noQueue noTrunk noMgmt))⟩

end Sys2Proof.Machine
end


section
/-! SUPPORT. The arbiter's choice of a queue (R108, R109). -/

namespace Sys2Proof.Machine

section
variable {s : State} {t : TrunkId}

theorem choose_none (nobody : ∀ q, s.candidate t q = false) : s.choose t = none := by
  cases choice : s.choose t with
  | none => rfl
  | some chosen => exact absurd (candidate_of_choose choice) (Bool.eq_false_iff.1 (nobody chosen.1))

/-! ### ROUND_ROBIN -/

theorem choose_roundRobin (mode : (s.trunk t).priorityMode = false) :
    s.choose t = ((cyclicAfter (s.trunk t).rrPointer).find? (s.candidate t)).map fun q => (q, none) := by
  rw [State.choose, if_neg (Bool.eq_false_iff.1 mode)]

theorem choose_roundRobin_nearest (mode : (s.trunk t).priorityMode = false) {q : QueueId}
    (candidate : s.candidate t q = true) : ∃ r, s.choose t = some (r, none) ∧ s.candidate t r = true ∧
      ∀ q', s.candidate t q' = true → (r - (s.trunk t).rrPointer - 1).val ≤ (q' - (s.trunk t).rrPointer - 1).val := by
  rw [choose_roundRobin mode]
  cases search : (cyclicAfter (s.trunk t).rrPointer).find? (s.candidate t) with
  | none => exact absurd candidate (Bool.eq_false_iff.1 (cyclicAfter_none search q))
  | some r =>
    obtain ⟨found, nearest⟩ := cyclicAfter_first search
    exact ⟨r, rfl, found, nearest⟩

/-! ### PRIORITY -/

/-- R109: the candidate of this level nearest after the level's pointer. -/
def State.levelChoice (s : State) (t : TrunkId) (level : Fin 4) : Option QueueId :=
  (cyclicAfter ((s.trunk t).levelPointers.get level)).find? fun q => s.candidate t q && (s.queue q).priority == level

theorem choose_priority (mode : (s.trunk t).priorityMode = true) :
    s.choose t = [3, 2, 1, 0].findSome? fun level => (s.levelChoice t level).map fun q => (q, some level) := by
  rw [State.choose, if_pos mode]
  rfl

variable {level : Fin 4} {q r : QueueId}

theorem levelChoice_some (choice : s.levelChoice t level = some r) :
    s.candidate t r = true ∧ (s.queue r).priority = level ∧
      ∀ q', s.candidate t q' = true → (s.queue q').priority = level →
        (r - (s.trunk t).levelPointers.get level - 1).val ≤ (q' - (s.trunk t).levelPointers.get level - 1).val := by
  obtain ⟨found, nearest⟩ := cyclicAfter_first choice
  obtain ⟨candidate, own⟩ := Bool.and_eq_true_iff.1 found
  exact ⟨candidate, beq_iff_eq.1 own, fun q' other same =>
    nearest q' (Bool.and_eq_true_iff.2 ⟨other, beq_iff_eq.2 same⟩)⟩

theorem levelChoice_ne_none (candidate : s.candidate t q = true) : s.levelChoice t (s.queue q).priority ≠ none := by
  intro nobody
  have failed := cyclicAfter_none nobody q
  simp [candidate] at failed

theorem mem_levels (level : Fin 4) : level ∈ [3, 2, 1, 0] := by revert level; decide

/-- R109: the levels are tried from the highest down, so the one that answers first has no candidate above it. -/
theorem highestLevel {α : Type} {f : Fin 4 → Option α} {x : α} (found : [3, 2, 1, 0].findSome? f = some x) :
    ∃ top, f top = some x ∧ ∀ level, f level ≠ none → level ≤ top := by
  obtain ⟨before, top, after, levels, answer, skipped⟩ := List.findSome?_eq_some_iff.1 found
  have descending : (before ++ top :: after).Pairwise (· > ·) := levels ▸ (by decide)
  refine ⟨top, answer, fun level answers => ?_⟩
  have place := mem_levels level
  rw [levels, List.mem_append, List.mem_cons] at place
  obtain above | rfl | below := place
  · exact absurd (skipped level above) answers
  · exact le_rfl
  · exact (List.rel_of_pairwise_cons (List.pairwise_append.1 descending).2.1 below).le

theorem choose_priority_highest (mode : (s.trunk t).priorityMode = true) (candidate : s.candidate t q = true) :
    ∃ r, s.choose t = some (r, some (s.queue r).priority) ∧ s.candidate t r = true ∧
      ∀ q', s.candidate t q' = true → (s.queue q').priority ≤ (s.queue r).priority ∧
        ((s.queue q').priority = (s.queue r).priority →
          (r - (s.trunk t).levelPointers.get (s.queue r).priority - 1).val ≤
            (q' - (s.trunk t).levelPointers.get (s.queue r).priority - 1).val) := by
  have answers : ∀ q', s.candidate t q' = true →
      (s.levelChoice t (s.queue q').priority).map (fun r => (r, some (s.queue q').priority)) ≠ none :=
    fun q' other => mt Option.map_eq_none_iff.1 (levelChoice_ne_none other)
  rw [choose_priority mode]
  cases search : [3, 2, 1, 0].findSome? fun level => (s.levelChoice t level).map fun q => (q, some level) with
  | none =>
    rw [List.findSome?_eq_none_iff] at search
    exact absurd (search _ (mem_levels _)) (answers q candidate)
  | some chosen =>
    obtain ⟨top, answer, highest⟩ := highestLevel search
    obtain ⟨r, choice, rfl⟩ := Option.map_eq_some_iff.1 answer
    obtain ⟨found, rfl, nearest⟩ := levelChoice_some choice
    exact ⟨r, rfl, found, fun q' other => ⟨highest _ (answers q' other), nearest q' other⟩⟩
end

/-- Settles O23: a candidate by its three conditions, and the choice by the arbitration mode. -/
theorem arbitrationChoice : Obligations.ArbitrationChoice := fun t s =>
  ⟨candidate_iff s t, choose_none, fun _ candidate mode => choose_roundRobin_nearest mode candidate,
    fun _ candidate mode => choose_priority_highest mode candidate⟩

end Sys2Proof.Machine
end


section
/-! SUPPORT. The emptied window (R99). -/

namespace Sys2Proof.Machine

section
variable {s : State} {t : TrunkId}

theorem windowEmptied_bundleLeft (left : (s.trunk t).bundles ≠ []) : s.windowEmptied t = s := by
  rw [State.windowEmptied, if_neg (mt List.isEmpty_iff.1 left)]

variable (empty : (s.trunk t).bundles = [])
include empty

theorem windowEmptied_stopping (stopping : (s.trunk t).state = .stopping) :
    s.windowEmptied t = s.modTrunk t fun k => { k with state := .disabled } := by
  rw [State.windowEmptied, if_pos (List.isEmpty_iff.2 empty), stopping]

theorem windowEmptied_holding (holding : (s.trunk t).state = .holding) :
    s.windowEmptied t = s.modTrunk t fun k =>
      { k with hold := none, stopRequested := false, state := if k.stopRequested then .disabled else .waiting } := by
  rw [State.windowEmptied, if_pos (List.isEmpty_iff.2 empty), holding]

theorem windowEmptied_otherState (notStopping : (s.trunk t).state ≠ .stopping)
    (notHolding : (s.trunk t).state ≠ .holding) : s.windowEmptied t = s := by
  rw [State.windowEmptied, if_pos (List.isEmpty_iff.2 empty)]
  cases mode : (s.trunk t).state with
  | stopping => exact absurd mode notStopping
  | holding => exact absurd mode notHolding
  | disabled | waiting | running => rfl
end

/-- Settles O25: with no bundle left, by the trunk state. -/
theorem emptiedWindow : Obligations.EmptiedWindow := fun _ _ =>
  ⟨windowEmptied_bundleLeft, fun empty =>
    ⟨windowEmptied_stopping empty, windowEmptied_holding empty, windowEmptied_otherState empty⟩⟩

end Sys2Proof.Machine
end


section
/-! SUPPORT. The retry deadline of a waiting bundle (R118, R127, R130). -/

namespace Sys2Proof.Machine

theorem exec_retryDeadlineExpiry_edge {s : State} (high : s.resetLow = false) (k : EdgeId) (seq : Byte) :
    exec (.retryDeadlineExpiry k.port seq) s = .next s := by
  change live s _ = _
  rw [live_of_high high, side_edge]

section
variable {s : State} {t : TrunkId} {seq : Byte} {b : Bundle}

theorem exec_retryDeadlineExpiry_notDue (high : s.resetLow = false) (notDue : s.retryDue t seq = none) :
    exec (.retryDeadlineExpiry t.port seq) s = .next s := by
  change live s _ = _
  rw [live_of_high high, side_trunk]
  simp only [notDue]

theorem exec_retryDeadlineExpiry_due (high : s.resetLow = false) (due : s.retryDue t seq = some b) :
    exec (.retryDeadlineExpiry t.port seq) s = .next (s.retryExpires t b) := by
  change live s _ = _
  rw [live_of_high high, side_trunk]
  simp only [due]

/-! ### Whether the deadline acts -/

theorem retryDue_absent (absent : ∀ b ∈ (s.trunk t).bundles, b.seq ≠ seq) : s.retryDue t seq = none := by
  have nowhere : (s.trunk t).bundles.find? (fun x => x.seq == seq) = none :=
    List.find?_eq_none.2 fun b mem => by simpa using absent b mem
  rw [State.retryDue, nowhere]

variable (found : (s.trunk t).bundles.find? (fun x => x.seq == seq) = some b)
include found

theorem retryDue_found : s.retryDue t seq =
    if b.retiring = false ∧ expired s.now b.retryDeadline = true then some b else none := by
  rw [State.retryDue, found]
  simp only [Bool.and_eq_true, Bool.not_eq_true']

theorem retryDue_notWaiting (still : b.retiring = true ∨ b.retryDeadline = none) : s.retryDue t seq = none := by
  rw [retryDue_found found, if_neg]
  rintro ⟨outstanding, due⟩
  rcases still with retiring | none
  · exact absurd (outstanding.symm.trans retiring) (by decide)
  · rw [none] at due
    cases due

theorem retryDue_ahead {d : Word} (deadline : b.retryDeadline = some d) (ahead : reached s.now d = false) :
    s.retryDue t seq = none := by
  rw [retryDue_found found, if_neg]
  rintro ⟨-, due⟩
  rw [deadline, expired, ahead] at due
  cases due

theorem retryDue_reached {d : Word} (outstanding : b.retiring = false) (deadline : b.retryDeadline = some d)
    (due : reached s.now d = true) : s.retryDue t seq = some b := by
  rw [retryDue_found found, if_pos ⟨outstanding, deadline ▸ due⟩]
end

/-! ### What it does -/

/-- R127: a limit of 15 is no limit. -/
theorem atLimit_iff (k : Trunk) (b : Bundle) : k.atLimit b = true ↔ k.retryLimit ≠ 15 ∧ k.retryLimit ≤ b.retry := by
  rw [Trunk.atLimit, Bool.and_eq_true, bne_iff_ne, decide_eq_true_iff]

section
variable {s : State} {t : TrunkId} {b : Bundle}

theorem retryExpires_resends (below : (s.trunk t).retryLimit = 15 ∨ b.retry < (s.trunk t).retryLimit) :
    s.retryExpires t b = (s.modTrunk t fun k =>
      k.updBundle b.seq fun x => { x with due := some .counted, retryDeadline := none }).trunkSelect t := by
  rw [State.retryExpires, if_neg]
  intro limit
  obtain ⟨limited, atLeast⟩ := (atLimit_iff _ b).1 limit
  rcases below with unlimited | fewer
  · exact limited unlimited
  · exact absurd fewer (by omega)

theorem retryExpires_abandons (limited : (s.trunk t).retryLimit ≠ 15) (atLeast : (s.trunk t).retryLimit ≤ b.retry) :
    s.retryExpires t b = (((s.abandon t b).1.raise (.deliveryWindow t)
      (abandonedEvent t b :: (s.abandon t b).2)).windowEmptied t).trunkSelect t := by
  rw [State.retryExpires, if_pos ((atLimit_iff _ b).2 ⟨limited, atLeast⟩)]
end

/-- Settles O29: the bundle that the sequence names decides whether the deadline acts, the retry limit what it does. -/
theorem retryDeadlineExpires : Obligations.RetryDeadlineExpires := by
  refine ⟨fun k seq s high => exec_retryDeadlineExpiry_edge high k seq, fun t seq s high =>
    ⟨fun absent => exec_retryDeadlineExpiry_notDue high (retryDue_absent absent), fun b found =>
      ⟨fun still => exec_retryDeadlineExpiry_notDue high (retryDue_notWaiting found still),
        fun d outstanding deadline => ⟨fun ahead =>
          exec_retryDeadlineExpiry_notDue high (retryDue_ahead found deadline ahead), fun due below => ?_,
          fun due limited atLeast => ?_⟩⟩⟩⟩
  · obtain ⟨rfl, -⟩ := eraseP_of_find found
    rw [exec_retryDeadlineExpiry_due high (retryDue_reached found outstanding deadline due), retryExpires_resends below]
    rfl
  · obtain ⟨rfl, -⟩ := eraseP_of_find found
    rw [exec_retryDeadlineExpiry_due high (retryDue_reached found outstanding deadline due),
      retryExpires_abandons limited atLeast]
    rfl

end Sys2Proof.Machine
end


section
/-! SUPPORT. RESET_N low and the timestamp (R155, R166). -/

namespace Sys2Proof.Machine

theorem resetNLow_holds (s : State) :
    ∃ t, exec .resetNLow s = .next t ∧ t.resetLow = true ∧ ∀ p, (t.link p).wire = none := by
  refine ⟨_, rfl, rfl, fun p => ?_⟩
  rw [State.link, Tab.get_map]

/-- R155: while RESET_N is low the part takes no event. -/
theorem exec_held {s : State} {c : Instr} (low : s.resetLow = true) (notReset : ∀ straps, c ≠ .hardReset straps)
    (notLow : c ≠ .resetNLow) : exec c s = .next s := by
  obtain ⟨u, acts, -⟩ := (pending_closed s.pending).exec c notReset notLow rfl
  rw [acts, live_of_low low]

theorem exec_timestampTick {s : State} (high : s.resetLow = false) :
    exec .timestampTick s = .next { s with now := s.now + 1 } :=
  live_of_high high _

/-- Settles O4: the two resets alone act on a part that is held, since every other command acts through `live`. -/
theorem resetLowHoldsThePart : Obligations.ResetLowHoldsThePart :=
  ⟨resetNLow_holds, fun _ _ => exec_held, fun _ => exec_timestampTick⟩

end Sys2Proof.Machine
end


section
/-! SUPPORT. The deadlines of the management unit: the lease and the response wait (R143, R148, R152). -/

namespace Sys2Proof.Machine

section
variable {s : State} (high : s.resetLow = false)
include high

/-! ### The lease -/

theorem exec_leaseDeadlineExpiry_unowned (unowned : s.mgmt.owner = none) : exec .leaseDeadlineExpiry s = .next s := by
  change live s _ = _
  rw [live_of_high high, unowned]

theorem exec_leaseDeadlineExpiry_owned {o : Owner} (owned : s.mgmt.owner = some o) :
    exec .leaseDeadlineExpiry s = .next (if reached s.now o.lease then s.leaseExpires o else s) := by
  change live s _ = _
  rw [live_of_high high, owned]

/-! ### The response wait -/

theorem exec_responseWaitExpiry_noneHeld (noneHeld : ∀ c p d, s.mgmt.mode ≠ .responseWait c p d) :
    exec .responseWaitExpiry s = .next s := by
  change live s _ = _
  rw [live_of_high high]
  cases mode : s.mgmt.mode with
  | responseWait c p d => exact absurd mode (noneHeld c p d)
  | ready | restartWait | restartDue => rfl

theorem exec_responseWaitExpiry_held {c : ControlFrame} {p : Port} {d : Word}
    (held : s.mgmt.mode = .responseWait c p d) :
    exec .responseWaitExpiry s = .next (if reached s.now d then s.loseResponse c else s) := by
  change live s _ = _
  rw [live_of_high high, held]
end

/-! ### The response that is dropped -/

section
variable {c : ControlFrame} (s : State)

theorem loseResponse_counted (ordinary : c.restart = false) :
    s.loseResponse c = (s.modMgmt fun m => { m with mode := .ready }).countMgmt .responseLost 1 := by
  rw [State.loseResponse, if_neg (Bool.eq_false_iff.1 ordinary)]

theorem loseResponse_restartDue (restart : c.restart = true) :
    s.loseResponse c = s.modMgmt fun m => { m with mode := .restartDue } := by
  rw [State.loseResponse, if_pos restart]
end

/-- Settles O30: whether the deadline stands and is reached decides whether the expiry acts. -/
theorem leaseAndResponseWaitExpire : Obligations.LeaseAndResponseWaitExpire := by
  refine ⟨fun _ => exec_leaseDeadlineExpiry_unowned, fun s o high owned => ⟨fun ahead => ?_, fun due => ?_⟩,
    fun _ => exec_responseWaitExpiry_noneHeld,
    fun s c p d high held => ⟨fun ahead => ?_, fun due ordinary => ?_, fun due restart => ?_⟩⟩
  · rw [exec_leaseDeadlineExpiry_owned high owned, if_neg (Bool.eq_false_iff.1 ahead)]
  · rw [exec_leaseDeadlineExpiry_owned high owned, if_pos due]
    rfl
  · rw [exec_responseWaitExpiry_held high held, if_neg (Bool.eq_false_iff.1 ahead)]
  · rw [exec_responseWaitExpiry_held high held, if_pos due, loseResponse_counted s ordinary]
    rfl
  · rw [exec_responseWaitExpiry_held high held, if_pos due, loseResponse_restartDue s restart]
    rfl

end Sys2Proof.Machine
end


section
/-! SUPPORT. CLAIM and RELEASE (R144 to R146). -/

namespace Sys2Proof.Machine

/-! ### What the bodies answer -/

section
variable {s : State} {r : Request}

theorem claimBody_unowned (unowned : s.mgmt.owner = none) : claimBody s r =
    ((s.modMgmt fun m => { m with owner := some (s.claimedBy r) }).raise .managementUnit
      [raiseOf .ownerChanged r.port.val r.src.toNat], .done (s.claimBytes r)) := by
  rw [claimBody, unowned]

theorem claimBody_owner (own : s.mgmt.owner.map Owner.addr = some r.src) :
    claimBody s r = (s, .done (s.claimBytes r)) := by
  obtain ⟨o, record, same⟩ := Option.map_eq_some_iff.1 own
  simp only [claimBody, record, if_pos same]

theorem claimBody_other {a : Half} (owned : s.mgmt.owner.map Owner.addr = some a) (other : a ≠ r.src) :
    claimBody s r = (s, { status := .busy, data := be16 a }) := by
  obtain ⟨o, record, rfl⟩ := Option.map_eq_some_iff.1 owned
  simp only [claimBody, record, if_neg other]

theorem releaseBody_owner (own : s.mgmt.owner.map Owner.addr = some r.src) : releaseBody s r =
    ((s.modMgmt fun m => { m with owner := none }).raise .managementUnit [raiseOf .ownerChanged r.port.val 0],
      .done []) := by
  rw [releaseBody, if_pos ((ownedBy_iff s r.src).2 own)]

theorem releaseBody_notOwner (notOwner : s.mgmt.owner.map Owner.addr ≠ some r.src) :
    releaseBody s r = (s, { status := .notOwner, data := be16 s.ownerAddress }) := by
  rw [releaseBody, if_neg (mt (ownedBy_iff s r.src).1 notOwner)]
end

/-! ### The rows -/

section
variable {s u : State} {r : Request} {rest : List Request} {st : Status} {data : List Byte}

theorem exec_claim (admits : s.admits r rest .claim)
    (outcome : claimBody (s.taken r rest) r = (u, { status := st, data := data })) :
    exec .claim s = .next (u.answered r st data) :=
  row_answers_of_body admits (row_of_kind (kind_of_admits admits)) (by decide) outcome

theorem exec_release (admits : s.admits r rest .release)
    (outcome : releaseBody (s.taken r rest) r = (u, { status := st, data := data })) :
    exec .release s = .next (u.answered r st data) :=
  row_answers_of_body admits (row_of_kind (kind_of_admits admits)) (by decide) outcome
end

/-- R145: the taking of a request changes neither the lease time nor the timestamp that a claim reads. -/
theorem taken_claimBytes (s : State) (r : Request) (rest : List Request) :
    (s.taken r rest).claimBytes r = [byteOf r.port.val] ++ be32n s.mgmt.leaseTime := by
  rw [State.claimBytes, taken_leaseTime]

theorem taken_claimedBy (s : State) (r : Request) (rest : List Request) : (s.taken r rest).claimedBy r =
    { addr := r.src, port := r.port, lease := s.now + BitVec.ofNat 32 (1000 * s.mgmt.leaseTime) } := by
  rw [State.claimedBy, taken_leaseTime, taken_now, deadlineAfter]

/-- Settles O40: the two bodies by the owner; the taking of the request keeps the owner's address. -/
theorem claimAndRelease : Obligations.ClaimAndRelease := by
  rintro s u r rest rfl
  have owner : (s.taken r rest).mgmt.owner.map Owner.addr = s.mgmt.owner.map Owner.addr := taken_ownerAddr s r rest
  refine ⟨fun admits => ⟨fun unowned => ?_, fun o owned => ?_⟩, fun admits => ⟨fun own => ?_, fun notOwner => ?_⟩⟩
  · have outcome := claimBody_unowned (r := r) ((taken_owner_none s r rest).2 unowned)
    rw [taken_claimedBy, taken_claimBytes] at outcome
    rw [exec_claim admits outcome, ← taken_events s r rest]
    rfl
  · rw [owned] at owner
    refine ⟨fun own => ?_, fun other => exec_claim admits (claimBody_other owner other)⟩
    rw [← taken_claimBytes s r rest]
    exact exec_claim admits (claimBody_owner (owner.trans (congrArg some own)))
  · rw [exec_release admits (releaseBody_owner (owner.trans own)), ← taken_events s r rest]
    rfl
  · rw [exec_release admits (releaseBody_notOwner (mt owner.symm.trans notOwner)), taken_ownerAddress]
    rfl

end Sys2Proof.Machine
end


section
/-! SUPPORT. RESTART: its OK response (R152). -/

namespace Sys2Proof.Machine

/-- R149: the code of RESTART. -/
theorem code_of_ofCode_restart {c : Byte} (restart : RequestKind.ofCode c = some .restart) : c = 0x19 := by
  unfold RequestKind.ofCode at restart
  split at restart <;> simp_all [BitVec.toNat_eq]

/-- R142, R152: the OK response to a RESTART, with the mark that the restart waits for it. -/
def restartResponse (own : Half) (r : Request) : ControlFrame :=
  { restart := true
    frame :=
      { kind := 0x04, tag := 0, dst := r.src, src := own, seq := 0, flags := 0,
        payload := [byteAt r.payload 0, byteAt r.payload 1, 0x19, 0, 0, 0] } }

section
variable {s : State} {r : Request} {rest : List Request}

theorem responseFrame_restart (own : Half) (kind : r.kind = some .restart) :
    responseFrame own r (.done []) = (restartResponse own r).frame := by
  have code : r.code = 0x19 := code_of_ofCode_restart kind
  rw [responseFrame, code]
  rfl

/-- R140, R152: an accepted RESTART changes nothing but by its taking, and its marked response is offered. -/
theorem exec_restart (admits : s.admits r rest .restart) : exec .restart s =
    .next ((s.taken r rest).respond r.port (restartResponse s.ownAddress r)) := by
  have ⟨heads, kind, _⟩ := admits
  change live s _ = _
  rw [live_of_heads heads, takeRequest_own heads (row_of_kind kind), execute_admitted admits, restartBody,
    responseFrame_restart _ kind, taken_ownAddress]
  rfl
end

/-- Settles O54: the marked response by the outcome of its offer. -/
theorem restartRequest : Obligations.RestartRequest := by
  rintro s u r rest c rfl admits rfl
  rw [exec_restart admits, ← taken_link s r rest r.port, ← taken_now s r rest]
  refine ⟨fun up room => ?_, fun up full => ?_, fun down => ?_⟩
  · rw [respond_accepted up room]
    rfl
  · rw [respond_full up full]
    rfl
  · rw [respond_linkDown down, loseResponse_restartDue _ rfl]
    rfl

end Sys2Proof.Machine
end


section
/-! SUPPORT. READ_ITEM (R157, R158, R160): the names that do not exist, the value that each item reads, and the answer. -/

namespace Sys2Proof.Machine

/-! ### Names that do not exist -/

section
variable {group inst field : Nat}

/-- R157: a number past the table of its group names nothing, nor does a field that no place of the table has. -/
theorem index_bind_none {α : Type} {n i : Nat} {f : Fin n → Option α} (missing : n ≤ i ∨ ∀ k, f k = none) :
    (index? n i).bind f = none := by
  rcases missing with past | noField
  · rw [index_none past]
    rfl
  · exact Option.bind_eq_none_iff.2 fun k _ => noField k

theorem ofGlobal_none (outside : field = 0 ∨ 0x10 < field) : Item.ofGlobal field = none := by
  unfold Item.ofGlobal
  split
  case h_17 => rfl
  all_goals omega

theorem ofPort_edge_none (k : EdgeId) (outside : field = 0 ∨ 3 ≤ field) : Item.ofPort k.port field = none := by
  unfold Item.ofPort
  split
  case h_3 => rw [side_edge]
  all_goals omega

theorem ofPort_trunk_none (t : TrunkId) (outside : field = 0 ∨ 0x09 < field) : Item.ofPort t.port field = none := by
  unfold Item.ofPort
  split
  case h_3 =>
    rw [side_trunk]
    simp only
    split
    case h_8 => rfl
    all_goals omega
  all_goals omega

theorem ofPort_none (p : Port) (outside : field = 0 ∨ 0x09 < field) : Item.ofPort p field = none := by
  rcases port_cases p with ⟨k, rfl⟩ | ⟨t, rfl⟩
  · exact ofPort_edge_none k (by omega)
  · exact ofPort_trunk_none t outside

theorem ofQueue_none (q : QueueId) (outside : field = 0 ∨ 0x07 < field) : Item.ofQueue q field = none := by
  unfold Item.ofQueue
  split
  case h_8 => rfl
  all_goals omega

theorem ofProfile_none (f : ProfileId) (outside : field = 0 ∨ 0x03 < field) : Item.ofProfile f field = none := by
  unfold Item.ofProfile
  split
  case h_4 => rfl
  all_goals omega

theorem ofName_global_none (missing : inst ≠ 0 ∨ field = 0 ∨ 0x10 < field) : Item.ofName 0 inst field = none := by
  change (if inst = 0 then Item.ofGlobal field else none) = none
  rcases missing with other | outside
  · exact if_neg other
  · rw [ofGlobal_none outside, ite_self]

theorem ofName_port_none (missing : 12 ≤ inst ∨ field = 0 ∨ 0x09 < field) : Item.ofName 1 inst field = none :=
  index_bind_none (missing.imp_right fun outside p => ofPort_none p outside)

theorem ofName_queue_none (missing : 16 ≤ inst ∨ field = 0 ∨ 0x07 < field) : Item.ofName 2 inst field = none :=
  index_bind_none (missing.imp_right fun outside q => ofQueue_none q outside)

theorem ofName_profile_none (missing : 8 ≤ inst ∨ field = 0 ∨ 0x03 < field) : Item.ofName 3 inst field = none :=
  index_bind_none (missing.imp_right fun outside f => ofProfile_none f outside)

theorem ofName_group_none (past : 4 ≤ group) : Item.ofName group inst field = none := by
  unfold Item.ofName
  split
  case h_5 => rfl
  all_goals omega
end

/-! ### Values -/

/-- R149, R160: the codes of the items that are a choice of two. -/
theorem resetCause_code (c : ResetCause) : c.code = if c = .power then 1 else 2 := by cases c <;> rfl
theorem steerAction_code (a : SteerAction) : a.code = if a = .discard then 0 else 1 := by cases a <;> rfl
theorem bank_code (k : Bank) : k.code = if k = .a then 0 else 1 := by cases k <;> rfl

section
variable (s : State)

theorem readItem_edgeAdmin (k : EdgeId) : s.readItem (.portAdmin k.port) = (s.edge.enabled.get k).toNat := by
  simp only [State.readItem, side_edge]

theorem readItem_trunkAdmin (t : TrunkId) : s.readItem (.portAdmin t.port) = (s.trunk t).enabled.toNat := by
  simp only [State.readItem, side_trunk]

/-- R137, R147: the taking of a request changes no item's value. -/
theorem taken_readItem (r : Request) (rest : List Request) (i : Item) : (s.taken r rest).readItem i = s.readItem i := by
  cases i with
  | leaseTime => exact taken_leaseTime s r rest
  | lastResetCause => exact congrArg ResetCause.code (taken_lastCause s r rest)
  | _ => rfl
end

/-! ### The answer -/

section
variable {s : State} {r : Request} {rest : List Request} (admits : s.admits r rest .readItem)
include admits

/-- R140, R158: the answer of the row, by the outcome of the body. -/
theorem exec_readItem {st : Status} {data : List Byte}
    (outcome : readItemBody (s.taken r rest) r = (s.taken r rest, { status := st, data := data })) :
    exec .readItem s = .next ((s.taken r rest).answered r st data) :=
  row_answers_of_body admits (row_of_kind (kind_of_admits admits)) (by decide) outcome

theorem exec_readItem_unnamed (unnamed : r.item = none) :
    exec .readItem s = .next ((s.taken r rest).answered r .badIndex []) :=
  exec_readItem admits (by rw [readItemBody, unnamed]; rfl)

theorem exec_readItem_named {i : Item} (named : r.item = some i) :
    exec .readItem s = .next ((s.taken r rest).answered r .ok (be32n (s.readItem i))) :=
  exec_readItem admits (by rw [readItemBody, named, ← taken_readItem s r rest i]; rfl)
end

/-- Settles O39: the answer by whether the name exists, the names that exist by the value of their item, and the others
group by group. -/
theorem readItemAnswersValue : Obligations.ReadItemAnswersValue := by
  refine ⟨fun s r rest admits => ⟨exec_readItem_unnamed admits, fun i => exec_readItem_named admits⟩, fun r => rfl,
    fun s => ?globalItems, fun s p => ?portLink, fun s k => ⟨?edgeAdmin, fun field above => ?edgeNames⟩,
    fun s t => ?trunkItems, fun s q => ?queueItems, fun s f => ?profileItems, fun group inst field missing => ?noNames⟩
  case globalItems =>
    rw [← resetCause_code, ← steerAction_code, ← bank_code]
    exact ⟨rfl, rfl, rfl, rfl, rfl, rfl, rfl, rfl, rfl, rfl, rfl, rfl, rfl, rfl, rfl, rfl⟩
  case portLink =>
    rw [ofName_port]
    rfl
  case edgeAdmin =>
    rw [← readItem_edgeAdmin]
    exact congrArg (Option.map s.readItem) (ofName_port k.port 0x01)
  case edgeNames => exact (ofName_port k.port field).trans (ofPort_edge_none k (.inr above))
  case trunkItems =>
    rw [← readItem_trunkAdmin]
    simp only [ofName_trunk, Item.ofPort, side_trunk]
    exact ⟨rfl, rfl, rfl, rfl, rfl, rfl, rfl, rfl⟩
  case queueItems =>
    simp only [ofName_queue]
    exact ⟨rfl, rfl, rfl, rfl, rfl, rfl, rfl⟩
  case profileItems =>
    simp only [ofName_profile]
    exact ⟨rfl, rfl, rfl⟩
  case noNames =>
    match group with
    | 0 => exact ofName_global_none (by omega)
    | 1 => exact ofName_port_none (by omega)
    | 2 => exact ofName_queue_none (by omega)
    | 3 => exact ofName_profile_none (by omega)
    | n + 4 => exact ofName_group_none (Nat.le_add_left 4 n)

end Sys2Proof.Machine
end


section
/-! SUPPORT. The sets of one subscriber slot (R173): every operation of the event unit on a slot keeps owed, pending and
recurred consistent (R174 to R179, R181). -/

namespace Sys2Proof.Machine

/-! ### Sets of kinds, kind by kind -/

/-- R21: the kinds of one set that are not in another. -/
theorem getLsbD_and_not (a b : Half) (k : Nat) : (a &&& ~~~b).getLsbD k = (a.getLsbD k && !b.getLsbD k) := by
  by_cases kind : k < 16
  · simp [kind]
  · simp [BitVec.getLsbD_of_ge _ _ (Nat.not_lt.1 kind)]

/-- R21: two sets are disjoint when no kind is in both. -/
theorem and_eq_zero_iff_disjoint (a b : Half) :
    a &&& b = 0 ↔ ∀ k, a.getLsbD k = true → b.getLsbD k = false := by
  constructor
  · intro disjoint k inA
    simpa [inA] using congrArg (fun x : Half => x.getLsbD k) disjoint
  · intro disjoint
    refine BitVec.eq_of_getLsbD_eq fun k _ => ?_
    cases inA : a.getLsbD k
    · simp [inA]
    · simp [disjoint k inA]

/-- R21: a set is within another when each of its kinds is in that one. -/
theorem and_not_eq_zero_iff_within (a b : Half) :
    a &&& ~~~b = 0 ↔ ∀ k, a.getLsbD k = true → b.getLsbD k = true := by
  constructor
  · intro within k inA
    simpa [inA] using (getLsbD_and_not a b k).symm.trans (congrArg (fun x : Half => x.getLsbD k) within)
  · intro within
    refine BitVec.eq_of_getLsbD_eq fun k _ => ?_
    rw [getLsbD_and_not]
    cases inA : a.getLsbD k
    · simp
    · simp [within k inA]

/-- Taking from a set the kinds that it has in common with another takes the kinds of the other from it. -/
theorem and_not_common (a b : Half) : a &&& ~~~(b &&& a) = a &&& ~~~b := by
  refine BitVec.eq_of_getLsbD_eq fun k _ => ?_
  rw [getLsbD_and_not, getLsbD_and_not, BitVec.getLsbD_and]
  cases a.getLsbD k <;> simp

/-! ### The sets of a slot -/

/-- What `Slot.setsOk` says, kind by kind. -/
structure Slot.KindsOk (x : Slot) : Prop where
  disjoint : ∀ k, x.owed.getLsbD k = true → x.pending.getLsbD k = false
  recurred : ∀ k, x.recurred.getLsbD k = true → x.pending.getLsbD k = true
  owed : ∀ k, x.owed.getLsbD k = true → x.kindSet.getLsbD k = true
  pending : ∀ k, x.pending.getLsbD k = true → x.kindSet.getLsbD k = true
  deadline : x.repeatDeadline.isSome = true ↔ x.pending ≠ 0 ∧ x.repeatInterval ≠ 0
  unused : x.inUse = false → x.owed = 0 ∧ x.pending = 0

theorem setsOk_iff (x : Slot) : x.setsOk ↔ x.KindsOk := by
  rw [Slot.setsOk, and_eq_zero_iff_disjoint, and_not_eq_zero_iff_within, and_not_eq_zero_iff_within,
    and_not_eq_zero_iff_within]
  exact ⟨fun ⟨disjoint, recurred, owed, pending, deadline, unused⟩ =>
    ⟨disjoint, recurred, owed, pending, deadline, unused⟩,
    fun h => ⟨h.disjoint, h.recurred, h.owed, h.pending, h.deadline, h.unused⟩⟩

namespace Slot.KindsOk
variable {x : Slot}

/-- A slot with empty sets and no deadline. -/
theorem of_empty (owed : x.owed = 0) (pending : x.pending = 0) (recurred : x.recurred = 0)
    (deadline : x.repeatDeadline = none) : x.KindsOk where
  disjoint k h := by simp [owed] at h
  recurred k h := by simp [recurred] at h
  owed k h := by simp [owed] at h
  pending k h := by simp [pending] at h
  deadline := by simp [deadline, pending]
  unused _ := ⟨owed, pending⟩

/-- R174, R175, R180, R181: what SUBSCRIBE, UNSUBSCRIBE, a hard reset and a restart leave. -/
theorem subscribed (addr : Half) (port : Port) (kinds : Half) (interval : Nat) :
    (Slot.subscribed addr port kinds interval).KindsOk := of_empty rfl rfl rfl rfl
theorem unsubscribed (x : Slot) : x.unsubscribed.KindsOk := of_empty rfl rfl rfl rfl
theorem reset : Slot.reset.KindsOk := of_empty rfl rfl rfl rfl
theorem restarted (x : Slot) : x.restarted.KindsOk := of_empty rfl rfl rfl rfl

/-- R177: an accepted NOTE makes the owed kinds pending, and the deadline runs unless the interval is 0. -/
theorem noted (h : x.KindsOk) (inUse : x.inUse = true) (owes : x.owed ≠ 0) (now : Word) : (x.noted now).KindsOk where
  disjoint k owed := by simp [Slot.noted] at owed
  recurred k recurs := by simp [Slot.noted, h.recurred k recurs]
  owed k owed := by simp [Slot.noted] at owed
  pending k pending := by
    simp only [Slot.noted, BitVec.getLsbD_or, Bool.or_eq_true] at pending
    exact pending.elim (h.pending k) (h.owed k)
  deadline := by
    have before := h.deadline
    by_cases interval : x.repeatInterval = 0
    · simpa [Slot.noted, interval] using before
    · have owing : x.pending ||| x.owed ≠ 0 := fun empty => owes (BitVec.or_eq_zero_iff.1 empty).2
      simp only [Slot.noted, if_neg interval]
      exact iff_of_true rfl ⟨owing, interval⟩
  unused free := absurd (inUse.symm.trans free) (by decide)

/-- R176: a kind that the slot is told of joins recurred where it is pending, and owed where it is not. -/
theorem act (h : x.KindsOk) (e : EventKind) : (x.act e).KindsOk := by
  by_cases subscribes : x.subscribes e = true
  · obtain ⟨inUse, told⟩ := (subscribes_iff x e).1 subscribes
    have used : ∀ {P : Prop}, x.inUse = false → P := fun free => absurd (inUse.symm.trans free) (by decide)
    have joins : ∀ (a : Half) k, (a ||| e.bit).getLsbD k = true → a.getLsbD k = true ∨ k = e.code := fun a k => by
      simp [getLsbD_bit]
    rw [act_subscribed inUse told]
    split
    · rename_i pending
      refine ⟨h.disjoint, fun k recurs => ?_, h.owed, h.pending, h.deadline, used⟩
      rcases joins _ k recurs with old | rfl
      · exact h.recurred k old
      · exact pending
    · rename_i fresh
      refine ⟨fun k owed => ?_, h.recurred, fun k owed => ?_, h.pending, h.deadline, used⟩
      · rcases joins _ k owed with old | rfl
        · exact h.disjoint k old
        · exact Bool.eq_false_iff.2 fresh
      · rcases joins _ k owed with old | rfl
        · exact h.owed k old
        · exact told
  · rw [Slot.act, if_neg subscribes]
    exact h

/-- R178: what was pending is owed again. -/
theorem repeats (h : x.KindsOk) : x.repeats.KindsOk where
  disjoint k _ := by simp [Slot.repeats]
  recurred k recurs := by simp [Slot.repeats] at recurs
  owed k owed := by
    simp only [Slot.repeats, BitVec.getLsbD_or, Bool.or_eq_true] at owed
    exact owed.elim (h.owed k) (h.pending k)
  pending k pending := by simp [Slot.repeats] at pending
  deadline := by simp [Slot.repeats]
  unused free := by
    obtain ⟨owed, pending⟩ := h.unused free
    simp [Slot.repeats, owed, pending]

end Slot.KindsOk

/-- R179: what an acknowledgement leaves, in terms of the listed kinds. -/
theorem acked_eq (x : Slot) (kinds : Half) : x.acked kinds = { x with
    pending := x.pending &&& ~~~kinds
    recurred := x.recurred &&& ~~~(kinds &&& x.pending)
    owed := x.owed ||| (kinds &&& x.pending &&& x.recurred)
    repeatDeadline := if x.pending &&& ~~~kinds = 0 then none else x.repeatDeadline } := by
  simp only [Slot.acked, and_not_common]

/-- R179: the listed kinds leave pending and recurred, and those that had recurred are owed. -/
theorem Slot.KindsOk.acked {x : Slot} (h : x.KindsOk) (kinds : Half) : (x.acked kinds).KindsOk := by
  have owes : ∀ k, (x.owed ||| (kinds &&& x.pending &&& x.recurred)).getLsbD k = true →
      x.owed.getLsbD k = true ∨ (kinds.getLsbD k = true ∧ x.pending.getLsbD k = true) := fun k owed => by
    simp only [BitVec.getLsbD_or, BitVec.getLsbD_and, Bool.or_eq_true, Bool.and_eq_true] at owed
    exact owed.imp_right And.left
  rw [acked_eq]
  refine ⟨fun k owed => ?disjoint, fun k recurs => ?recurred, fun k owed => ?owed, fun k pending => ?pending, ?deadline,
    fun free => ?unused⟩
  case disjoint =>
    rw [getLsbD_and_not]
    rcases owes k owed with old | ⟨listed, -⟩
    · rw [h.disjoint k old, Bool.false_and]
    · rw [listed, Bool.not_true, Bool.and_false]
  case recurred =>
    rw [getLsbD_and_not, BitVec.getLsbD_and, Bool.and_eq_true] at recurs
    obtain ⟨recurred, unlisted⟩ := recurs
    have pending := h.recurred k recurred
    rw [getLsbD_and_not, pending]
    simpa [pending] using unlisted
  case owed => exact (owes k owed).elim (h.owed k) fun listed => h.pending k listed.2
  case pending =>
    rw [getLsbD_and_not, Bool.and_eq_true] at pending
    exact h.pending k pending.1
  case deadline =>
    by_cases done : x.pending &&& ~~~kinds = 0
    · simp [done]
    · have pending : x.pending ≠ 0 := fun empty => done (by simp [empty])
      simp only [if_neg done]
      exact h.deadline.trans (and_congr_left' (iff_of_true pending done))
  case unused =>
    obtain ⟨owed, pending⟩ := h.unused free
    simp [owed, pending]

end Sys2Proof.Machine
end


section
/-! SUPPORT. The operations of the other blocks leave every subscriber slot as it was. -/

namespace Sys2Proof.Machine

/-- A step that does nothing to the event unit but raise events leaves the slots. -/
theorem RaisesOnly.slots {s t : State} (h : RaisesOnly s t) : t.events.slots = s.events.slots := by
  obtain ⟨_, events⟩ := h
  rw [events]

section
variable (s : State)

/-! ### The queue unit and the delivery windows -/

@[simp] theorem retire_fst_slots (t : TrunkId) (b : Bundle) : (s.retire t b).1.events.slots = s.events.slots :=
  (RaisesOnly.retire s t b).slots
@[simp] theorem abandon_fst_slots (t : TrunkId) (b : Bundle) : (s.abandon t b).1.events.slots = s.events.slots := by
  obtain ⟨_, -, events⟩ := abandon_fst_events s t b
  rw [events]
@[simp] theorem holdExpires_slots (t : TrunkId) : (s.holdExpires t).events.slots = s.events.slots :=
  (RaisesOnly.holdExpires s t).slots
@[simp] theorem ackOne_fst_slots (t : TrunkId) (x : State × List Raise) (seq : Byte) :
    (State.ackOne t x seq).1.events.slots = x.1.events.slots := by
  unfold State.ackOne
  split <;> [skip; split <;> [skip; split]] <;> simp
@[simp] theorem takeAck_slots (t : TrunkId) (l : List Byte) : (s.takeAck t l).events.slots = s.events.slots := by
  unfold State.takeAck
  split
  · simp
  · dsimp only
    split <;> simp [foldl_ackOne (fun u => u.events.slots) t (fun _ _ => by simp)]
@[simp] theorem drainExpires_slots (q : QueueId) : (s.drainExpires q).events.slots = s.events.slots := by
  unfold State.drainExpires
  dsimp only
  split <;> split <;> simp
@[simp] theorem retryExpires_slots (t : TrunkId) (b : Bundle) : (s.retryExpires t b).events.slots = s.events.slots := by
  unfold State.retryExpires
  split <;> simp
@[simp] theorem bundleEnds_slots (t : TrunkId) (seq : Byte) : (s.bundleEnds t seq).events.slots = s.events.slots := by
  unfold State.bundleEnds
  split <;> [skip; split] <;> simp
@[simp] theorem enrol_slots (q : QueueId) (m : Member) : (s.enrol q m).events.slots = s.events.slots := by
  unfold State.enrol
  split <;> [(dsimp only; split); skip] <;> simp
@[simp] theorem halt_slots (q : QueueId) : (s.halt q).events.slots = s.events.slots := by
  simp [State.halt]
@[simp] theorem purge_slots (q : QueueId) : (s.purge q).events.slots = s.events.slots := by
  simp [State.purge]

/-! ### The edge unit and the steering unit -/

@[simp] theorem loseReturns_slots (k : EdgeId) (kept gone : List Frame) :
    (s.loseReturns k kept gone).events.slots = s.events.slots := by
  simp [State.loseReturns, State.dropReturns]
@[simp] theorem returnEnds_slots (k : EdgeId) : (s.returnEnds k).events.slots = s.events.slots := by
  simp [State.returnEnds, State.dropReturns]
@[simp] theorem returnAdmit_slots (t : TrunkId) (f : Frame) (k : EdgeId) :
    (State.returnAdmit t f s k).events.slots = s.events.slots := by
  unfold State.returnAdmit
  split <;> [skip; split] <;> simp
@[simp] theorem returnPath_slots (t : TrunkId) (f : Frame) : (s.returnPath t f).events.slots = s.events.slots := by
  unfold State.returnPath
  split
  · split
    · simp
    · exact foldl_keeps (g := fun u : State => u.events.slots) (fun u k => returnAdmit_slots u t f k) _ s
  · split <;> [split; skip] <;> simp
@[simp] theorem classify_slots (k : EdgeId) (f : Frame) : (s.classify k f).events.slots = s.events.slots := by
  have steered : ∀ (u : State) (a : SteerAction) (q : QueueId), (u.steerTo a q k f).events.slots = u.events.slots :=
    fun u a q => by cases a <;> simp [State.steerTo]
  unfold State.classify
  split <;> simp [steered]
@[simp] theorem syncs_slots (i : EntryId) : (s.syncs i).events.slots = s.events.slots := by
  unfold State.syncs
  dsimp only
  split <;> simp

/-! ### Receptions and the report of DOWN -/

@[simp] theorem requestArrives_slots (r : Request) : (s.requestArrives r).events.slots = s.events.slots := by
  unfold State.requestArrives
  split <;> [skip; (dsimp only; split)] <;> simp
@[simp] theorem dispatchMgmt_slots (p : Port) (f : Frame) : (s.dispatchMgmt p f).events.slots = s.events.slots := by
  unfold State.dispatchMgmt
  split <;> simp
@[simp] theorem dispatchAck_slots (p : Port) (f : Frame) : (s.dispatchAck p f).events.slots = s.events.slots := by
  unfold State.dispatchAck
  split <;> (split <;> [skip; split]) <;> simp
@[simp] theorem dispatchData_slots (p : Port) (f : Frame) : (s.dispatchData p f).events.slots = s.events.slots := by
  unfold State.dispatchData
  split <;> [split; (split <;> [skip; split])] <;> simp
@[simp] theorem arrive_slots (p : Port) (l : List Byte) : (s.arrive p l).events.slots = s.events.slots := by
  unfold State.arrive
  split
  · simp
  · unfold State.dispatch
    split <;> [skip; split] <;> simp
@[simp] theorem linkGoesDown_slots (p : Port) (receiving : Bool) :
    (s.linkGoesDown p receiving).events.slots = s.events.slots := by
  obtain ⟨_, events⟩ := linkGoesDown_events s p receiving
  rw [events]

/-! ### Requests of the other blocks -/

variable (r : Request)

@[simp] theorem queueStartBody_slots : (queueStartBody s r).1.events.slots = s.events.slots := by
  refine onQueue_fst (P := fun u => u.events.slots = s.events.slots) r (fun q => ?_) rfl
  split <;> rfl
@[simp] theorem queueHaltBody_slots : (queueHaltBody s r).1.events.slots = s.events.slots := by
  refine onQueue_fst (P := fun u => u.events.slots = s.events.slots) r (fun q => ?_) rfl
  split <;> [rfl; exact halt_slots s q; rfl]
@[simp] theorem queueFlushBody_slots : (queueFlushBody s r).1.events.slots = s.events.slots := by
  refine onQueue_fst (P := fun u => u.events.slots = s.events.slots) r (fun q => ?_) rfl
  split <;> [rfl; simp; rfl]
@[simp] theorem queuePurgeBody_slots : (queuePurgeBody s r).1.events.slots = s.events.slots := by
  refine onQueue_fst (P := fun u => u.events.slots = s.events.slots) r (fun q => ?_) rfl
  split <;> [rfl; exact purge_slots s q; exact purge_slots s q]
@[simp] theorem dirPinBody_slots : (dirPinBody s r).1.events.slots = s.events.slots := by
  unfold dirPinBody
  split <;> [rfl; split <;> [rfl; split <;> [rfl; split <;> rfl]]]
@[simp] theorem dirUnpinBody_slots : (dirUnpinBody s r).1.events.slots = s.events.slots := by
  unfold dirUnpinBody
  split <;> [rfl; split <;> [rfl; split <;> rfl]]
@[simp] theorem readEventsTakeBody_slots : (readEventsTakeBody s r).1.events.slots = s.events.slots := by
  unfold readEventsTakeBody
  split <;> rfl
@[simp] theorem tableWriteBody_slots : (tableWriteBody s r).1.events.slots = s.events.slots := by
  unfold tableWriteBody
  split <;> [rfl; split <;> [rfl; split <;> rfl]]
@[simp] theorem commitBody_slots : (commitBody s r).1.events.slots = s.events.slots := by
  unfold commitBody
  split <;> rfl
@[simp] theorem readCountersClearBody_slots : (readCountersClearBody s r).1.events.slots = s.events.slots := by
  unfold readCountersClearBody
  split <;> rfl
@[simp] theorem claimBody_slots : (claimBody s r).1.events.slots = s.events.slots := by
  unfold claimBody
  split <;> [simp; split <;> rfl]
@[simp] theorem releaseBody_slots : (releaseBody s r).1.events.slots = s.events.slots := by
  unfold releaseBody
  split <;> [simp; rfl]

/-! Writes of items -/

@[simp] theorem writeEdgeAdmin_slots (k : EdgeId) (v : Nat) : (s.writeEdgeAdmin k v).1.events.slots = s.events.slots := by
  unfold State.writeEdgeAdmin
  split <;> [rfl; split <;> [rfl; split <;> [skip; rfl]]]
  unfold State.edgeDisable
  dsimp only
  split <;> simp
@[simp] theorem writeTrunkAdmin_slots (t : TrunkId) (v : Nat) : (s.writeTrunkAdmin t v).1.events.slots = s.events.slots := by
  unfold State.writeTrunkAdmin
  split <;> [skip; split <;> rfl]
  unfold State.trunkEnable
  dsimp only
  split <;> simp
@[simp] theorem writeReserve_slots (a : AcctId) (n : Nat) (blocked : Bool) :
    (s.writeReserve a n blocked).1.events.slots = s.events.slots := by
  unfold State.writeReserve
  split <;> rfl
@[simp] theorem writeCap_slots (a : AcctId) (n : Nat) (blocked : Bool) :
    (s.writeCap a n blocked).1.events.slots = s.events.slots := by
  unfold State.writeCap
  split <;> rfl
@[simp] theorem writeLowWater_slots (v : Nat) : (s.writeLowWater v).1.events.slots = s.events.slots := by
  unfold State.writeLowWater
  split <;> [rfl; simp]

@[simp] theorem writeItem_slots (i : Item) (v : Nat) : (s.writeItem i v).1.events.slots = s.events.slots := by
  have ranged : ∀ (inRange : Bool) (t : State), t.events.slots = s.events.slots →
      (writeIf s inRange t).1.events.slots = s.events.slots :=
    fun _ _ same => writeIf_fst (P := fun u => u.events.slots = s.events.slots) rfl same
  have checked : ∀ (inRange allowed : Bool) (t : State), t.events.slots = s.events.slots →
      (writeIn s inRange allowed t).1.events.slots = s.events.slots :=
    fun _ _ _ same => writeIn_fst (P := fun u => u.events.slots = s.events.slots) rfl fun _ _ => same
  cases i with
  | ownAddress | lastResetCause | freeCells | freeDescriptors | generation | activeBank | syncState | timestamp
  | recordsLost | portLink | trunkState | queueState => rfl
  | defaultAction | defaultQueue | queuePriority => dsimp only [State.writeItem]; split <;> rfl
  | leaseTime | directoryAge | queueDrainLimit | threshold | frameLimit | ageLimit | arbitrationMode | collector
  | retryInterval | retryLimit | holdTime => exact ranged _ _ rfl
  | windowSize => exact checked _ _ _ rfl
  | queueTrunk | queueProfile => dsimp only [State.writeItem]; split <;> [rfl; exact checked _ _ _ rfl]
  | poolLowWater => exact writeLowWater_slots s v
  | retReserve | queueReserve => exact writeReserve_slots s _ v _
  | retCap | queueCap => exact writeCap_slots s _ v _
  | portAdmin p =>
    dsimp only [State.writeItem]
    split <;> [exact writeEdgeAdmin_slots s _ v; exact writeTrunkAdmin_slots s _ v]

@[simp] theorem writeItemBody_slots : (writeItemBody s r).1.events.slots = s.events.slots := by
  unfold writeItemBody
  split <;> [rfl; exact writeItem_slots s _ _]

end

end Sys2Proof.Machine
end


section
/-! SUPPORT. The invariant of the subscriber slots (R173): every operation on a slot keeps its sets, and no other operation
touches a slot. -/

namespace Sys2Proof.Machine

/-! ### One slot changes -/

theorem modSlot_slot (s : State) (i j : SlotId) (f : Slot → Slot) :
    (s.modSlot i f).slot j = if j = i then f (s.slot i) else s.slot j := Tab.get_upd _ _ _ _

namespace SlotSets
variable {s : State}

/-- Only the slots matter. -/
theorem congr {t : State} (h : SlotSets s) (slots : t.events.slots = s.events.slots) : SlotSets t := fun i => by
  rw [State.slot, slots]
  exact h i

theorem kinds (h : SlotSets s) (i : SlotId) : (s.slot i).KindsOk := (setsOk_iff _).1 (h i)

theorem modSlot (h : SlotSets s) {i : SlotId} {f : Slot → Slot} (changed : (f (s.slot i)).KindsOk) :
    SlotSets (s.modSlot i f) := fun j => by
  rw [modSlot_slot]
  split
  · exact (setsOk_iff _).2 changed
  · exact h j

/-! ### Opportunities and the taking of raises -/

/-- R177: each NOTE that is accepted comes from a slot in use that owes kinds. -/
theorem offerNotes (h : SlotSets s) (p : Port) (l : List SlotId) : SlotSets (s.offerNotes p l) := by
  induction l generalizing s with
  | nil => exact h
  | cons i rest ih =>
    unfold State.offerNotes
    split
    · rename_i ready
      obtain ⟨inUse, owes, -⟩ := ready_iff.1 ready
      have noted : SlotSets (s.modSlot i fun x => x.noted s.now) := h.modSlot ((h.kinds i).noted inUse owes s.now)
      split
      · exact ih (noted.congr (by simp))
      · exact h.congr rfl
      · exact h.congr rfl
    · exact ih h

theorem opportunity (h : SlotSets s) (p : Port) : SlotSets (s.opportunity p) := h.offerNotes p _

/-- R176: the kinds of a raise act on every slot one after another. -/
theorem noticed (h : SlotSets s) (r : Raise) : SlotSets (s.noticed r) := fun i => by
  rw [noticed_slot, setsOk_iff]
  exact List.foldlRecOn (motive := Slot.KindsOk) _ _ (h.kinds i) fun _ hx k _ => hx.act k

theorem takeRaise (h : SlotSets s) (r : Raise) : SlotSets (s.takeRaise r) :=
  List.foldlRecOn (motive := SlotSets) _ _ (h.noticed r) fun _ hu p _ => hu.opportunity p

theorem takeRaises (h : SlotSets s) (rs : List Raise) : SlotSets (s.takeRaises rs) :=
  List.foldlRecOn (motive := SlotSets) _ _ h fun _ hu r _ => hu.takeRaise r

theorem takeArrival (h : SlotSets s) (b : Block) : SlotSets (s.takeArrival b) := by
  unfold State.takeArrival
  split
  · exact h
  · refine takeRaises ?_ _
    exact h.congr rfl

theorem takeAllOf (h : SlotSets s) (b : Block) : SlotSets (s.takeAllOf b) := by
  refine takeRaises ?_ _
  exact h.congr rfl

/-! ### Link reports, transmission ends and the restart -/

theorem linkComesUp (h : SlotSets s) (p : Port) : SlotSets (s.linkComesUp p) := by
  have reported : SlotSets (s.upReported p) := h.congr (by simp [State.upReported])
  exact ((reported.takeAllOf (.linkLayer p)).opportunity p).congr (by simp [State.linkComesUp, State.upReported])

theorem offerBoth (h : SlotSets s) (p : Port) (first : Bool) : SlotSets (s.offerBoth p first) := by
  unfold State.offerBoth
  split
  · exact (h.congr (by simp)).opportunity p
  · exact (h.opportunity p).congr (by simp)

theorem transmissionEnds (h : SlotSets s) (p : Port) (w : OnWire) (first : Bool) :
    SlotSets (s.transmissionEnds p w first) := by
  have counted : SlotSets ((s.countPort p .framesSent 1).modLink p fun l => { l with wire := none }) := h.congr rfl
  suffices ended : ∀ u, SlotSets u → SlotSets (u.ownerEnds p w.owner first) from
    (ended _ counted).congr (by simp [State.transmissionEnds])
  intro u hu
  unfold State.ownerEnds
  split
  · exact (hu.congr (by simp)).offerBoth p first
  · split <;> [exact hu.congr (by simp); exact hu]
  · split <;> [exact hu; exact hu.congr (by simp)]

/-- R181: the event unit's restart empties the sets of every slot; the other blocks' leave the slots. -/
theorem blockRestarts (h : SlotSets s) (b : RestartBlock) : SlotSets (s.blockRestarts b) := fun i => by
  rw [State.slot, blockRestarts_events]
  split
  · simpa [EventUnit.restarted, setsOk_iff] using Slot.KindsOk.restarted (s.events.slots.get i)
  · exact h i

theorem restarts (h : SlotSets s) : SlotSets s.restarts := by
  have started : SlotSets s.restartStarts := by
    unfold State.restartStarts
    split <;> [exact h.congr rfl; exact h]
  have block : ∀ (u : State) (b : RestartBlock), SlotSets u → SlotSets (u.restartBlock b) := fun u b hu => by
    unfold State.restartBlock
    split
    · refine blockRestarts ?_ b
      exact hu.congr rfl
    · exact hu
  have taken := List.foldlRecOn (motive := SlotSets) s.events.nextOrder State.restartBlock
    (b := s.restartStarts.modEvents fun e => { e with orders := e.orders.tail }) (started.congr rfl)
    fun u hu b _ => block u b hu
  have asked := List.foldlRecOn (motive := SlotSets) (List.finRange 12) (State.selectAborted s) taken
    fun u hu p _ => hu.congr (congrArg EventUnit.slots (selectAborted_events s u p))
  unfold State.restarts
  dsimp only
  split
  · exact h
  · split
    · exact asked.takeRaise _
    · exact asked

/-! ### Requests -/

theorem takeRequest {row : RequestRow} {body : State → Request → State × Reply}
    (executed : ∀ {u : State} (r : Request), SlotSets u → SlotSets (body u r).1) (h : SlotSets s) :
    SlotSets (s.takeRequest row body) := by
  unfold State.takeRequest
  split
  · exact h
  · rename_i r rest _
    have taken : SlotSets (s.taken r rest) := h.congr (by simp)
    split
    · refine congr (s := ((s.taken r rest).execute r body).1) ?_ (by simp)
      unfold State.execute
      split <;> [exact taken; split <;> [exact taken; exact executed r taken]]
    · exact h

/-- A request whose execution leaves the slots alone. -/
theorem takeRequest_of_slots {row : RequestRow} {body : State → Request → State × Reply}
    (same : ∀ (u : State) (r : Request), (body u r).1.events.slots = u.events.slots) (h : SlotSets s) :
    SlotSets (s.takeRequest row body) :=
  takeRequest (fun r hu => hu.congr (same _ r)) h

theorem subscribeBody (r : Request) (h : SlotSets s) : SlotSets (subscribeBody s r).1 := by
  unfold Machine.subscribeBody
  split <;> [exact h; split <;> [exact h; split <;> [exact h; split <;> [exact h; split <;> [exact h; skip]]]]]
  exact h.modSlot (.subscribed _ _ _ _)

theorem unsubscribeBody (r : Request) (h : SlotSets s) : SlotSets (unsubscribeBody s r).1 := by
  unfold Machine.unsubscribeBody
  split
  · exact h
  · dsimp only
    split
    · exact h.modSlot (.unsubscribed _)
    · exact h

theorem eventAckBody (r : Request) (h : SlotSets s) : SlotSets (eventAckBody s r).1 := by
  unfold Machine.eventAckBody
  split
  · exact h
  · split
    · exact h
    · rename_i i _ _
      have acked : SlotSets (s.modSlot i fun x => x.acked (r.op16 1)) := h.modSlot ((h.kinds i).acked _)
      dsimp only
      split
      · exact acked
      · exact acked.opportunity _

/-! ### Every command -/

/-- Every command but the two of RESET_N acts through `live`, and leaves slots whose sets are consistent. -/
theorem exec (c : Instr) (reset : ∀ straps, c ≠ .hardReset straps) (low : c ≠ .resetNLow) (h : SlotSets s) :
    ∃ u, Machine.exec c s = live s u ∧ SlotSets u := by
  cases c with
  | hardReset straps => exact absurd rfl (reset straps)
  | resetNLow => exact absurd rfl low
  | linkUp p =>
    refine ⟨_, rfl, ?_⟩
    split <;> [exact h; exact h.linkComesUp p]
  | linkDown p receiving =>
    refine ⟨_, rfl, ?_⟩
    split <;> [exact h.congr (by simp); exact h]
  | receptionAborted p =>
    refine ⟨_, rfl, ?_⟩
    split <;> [exact h.congr rfl; exact h]
  | frameArrival p l =>
    refine ⟨_, rfl, ?_⟩
    split <;> [exact h.congr (by simp); exact h]
  | transmissionEnd p first =>
    refine ⟨_, rfl, ?_⟩
    split <;> [exact h; exact h.transmissionEnds p _ first]
  | directorySecondExpiry =>
    refine ⟨_, rfl, ?_⟩
    split <;> [exact h.congr rfl; exact h]
  | ageDeadlineExpiry q | drainDeadlineExpiry q =>
    refine ⟨_, rfl, ?_⟩
    split <;> [exact h.congr (by simp); exact h]
  | holdDeadlineExpiry p =>
    refine ⟨_, rfl, ?_⟩
    split <;> [exact h; split <;> [exact h.congr (by simp); exact h]]
  | retryDeadlineExpiry p seq =>
    refine ⟨_, rfl, ?_⟩
    split <;> [exact h; split <;> [exact h; exact h.congr (by simp)]]
  | leaseDeadlineExpiry =>
    refine ⟨_, rfl, ?_⟩
    split <;> [exact h; split <;> [exact h.congr (by simp [State.leaseExpires]); exact h]]
  | responseWaitExpiry =>
    refine ⟨_, rfl, ?_⟩
    split <;> [split <;> [exact h.congr (by simp); exact h]; exact h; exact h; exact h]
  | repeatDeadlineExpiry i =>
    refine ⟨_, rfl, ?_⟩
    split <;> [exact (h.modSlot (h.kinds i).repeats).opportunity _; exact h]
  | syncStep =>
    refine ⟨_, rfl, ?_⟩
    split <;> [split <;> [exact h.congr (by simp); exact h]; exact h]
  | eventRaise b => exact ⟨_, rfl, h.takeArrival b⟩
  | restartBegin => exact ⟨_, rfl, h.restarts⟩
  | timestampTick => exact ⟨_, rfl, h.congr rfl⟩
  | subscribe => exact ⟨_, rfl, h.takeRequest subscribeBody⟩
  | unsubscribe => exact ⟨_, rfl, h.takeRequest unsubscribeBody⟩
  | eventAck => exact ⟨_, rfl, h.takeRequest eventAckBody⟩
  | identify | restart | unknownRequestKind | tableClear | dirFlush =>
    exact ⟨_, rfl, h.takeRequest_of_slots fun _ _ => rfl⟩
  | readItem => exact ⟨_, rfl, h.takeRequest_of_slots (by simp)⟩
  | tableRead => exact ⟨_, rfl, h.takeRequest_of_slots (by simp)⟩
  | readHits => exact ⟨_, rfl, h.takeRequest_of_slots (by simp)⟩
  | queueStatus => exact ⟨_, rfl, h.takeRequest_of_slots (by simp)⟩
  | dirRead => exact ⟨_, rfl, h.takeRequest_of_slots (by simp)⟩
  | readEvents => exact ⟨_, rfl, h.takeRequest_of_slots (by simp)⟩
  | readCounters => exact ⟨_, rfl, h.takeRequest_of_slots (by simp)⟩
  | claim => exact ⟨_, rfl, h.takeRequest_of_slots claimBody_slots⟩
  | release => exact ⟨_, rfl, h.takeRequest_of_slots releaseBody_slots⟩
  | tableWrite => exact ⟨_, rfl, h.takeRequest_of_slots tableWriteBody_slots⟩
  | commit => exact ⟨_, rfl, h.takeRequest_of_slots commitBody_slots⟩
  | queueStart => exact ⟨_, rfl, h.takeRequest_of_slots queueStartBody_slots⟩
  | queueHalt => exact ⟨_, rfl, h.takeRequest_of_slots queueHaltBody_slots⟩
  | queueFlush => exact ⟨_, rfl, h.takeRequest_of_slots queueFlushBody_slots⟩
  | queuePurge => exact ⟨_, rfl, h.takeRequest_of_slots queuePurgeBody_slots⟩
  | dirPin => exact ⟨_, rfl, h.takeRequest_of_slots dirPinBody_slots⟩
  | dirUnpin => exact ⟨_, rfl, h.takeRequest_of_slots dirUnpinBody_slots⟩
  | readEventsTake => exact ⟨_, rfl, h.takeRequest_of_slots readEventsTakeBody_slots⟩
  | readCountersClear => exact ⟨_, rfl, h.takeRequest_of_slots readCountersClearBody_slots⟩
  | writeItem | writeEdgeAdminState | writeTrunkAdminEnabled | writeTrunkAdminDisabled | writeReserve | writeCap
  | writePoolLowWater => exact ⟨_, rfl, h.takeRequest_of_slots writeItemBody_slots⟩

end SlotSets

theorem slotSets_afterHardReset (straps : BitVec 6) (l : List Instr) : SlotSets (State.afterHardReset straps l) := fun i => by
  have slot : (State.afterHardReset straps l).slot i = .reset := Tab.get_replicate _ i
  rw [slot, setsOk_iff]
  exact .reset

theorem exec_slotSets (c : Instr) (s t : State) (h : SlotSets s) (ht : exec c s = .next t) : SlotSets t := by
  by_cases reset : ∃ straps, c = .hardReset straps
  · obtain ⟨straps, rfl⟩ := reset
    cases ht
    exact (slotSets_afterHardReset straps s.pending).congr rfl
  · by_cases low : c = .resetNLow
    · subst low
      cases ht
      exact h.congr rfl
    · obtain ⟨u, acts, hu⟩ := h.exec c (fun straps e => reset ⟨straps, e⟩) low
      rw [acts, live] at ht
      cases ht
      split
      · exact h
      · exact hu

/-- Settles O56: the operations on a slot keep its sets, and every other operation leaves the slots alone. -/
theorem slotSetsKept : Obligations.SlotSetsKept :=
  fun _ _ h ht => kept_by_step (P := SlotSets) (fun _ _ h => h) exec_slotSets h ht

end Sys2Proof.Machine
end


section
/-! SUPPORT. The repeat deadline of a subscriber slot (R178), and the requests that change a slot: SUBSCRIBE, UNSUBSCRIBE and
EVENT_ACK (R174, R175, R179). -/

namespace Sys2Proof.Machine

/-! ### The repeat deadline -/

section
variable {i : SlotId} {s : State} (high : s.resetLow = false)
include high

theorem exec_repeatDeadlineExpiry_notDue
    (notDue : ¬ ((s.slot i).inUse = true ∧ expired s.now (s.slot i).repeatDeadline = true)) :
    exec (.repeatDeadlineExpiry i) s = .next s := by
  change live s _ = _
  rw [live_of_high high, if_neg notDue]

theorem exec_repeatDeadlineExpiry_due (inUse : (s.slot i).inUse = true)
    (due : expired s.now (s.slot i).repeatDeadline = true) :
    exec (.repeatDeadlineExpiry i) s = .next ((s.modSlot i Slot.repeats).opportunity (s.slot i).port) := by
  change live s _ = _
  rw [live_of_high high, if_pos ⟨inUse, due⟩]
end

/-- Settles O31: whether the slot is in use and its deadline is there and reached decides whether the expiry acts. -/
theorem repeatDeadlineExpires : Obligations.RepeatDeadlineExpires := by
  refine fun i s high => ⟨fun still => ?_, fun d inUse deadline => ⟨fun ahead => ?_, fun due => ?_⟩⟩
  · refine exec_repeatDeadlineExpiry_notDue high fun ⟨inUse, due⟩ => ?_
    rcases still with free | absent
    · exact absurd (inUse.symm.trans free) (by decide)
    · rw [absent] at due
      cases due
  · refine exec_repeatDeadlineExpiry_notDue high fun ⟨_, due⟩ => ?_
    rw [deadline, expired, ahead] at due
    cases due
  · rw [exec_repeatDeadlineExpiry_due high inUse (by rw [deadline]; exact due)]
    rfl

/-! ### The rows -/

section
variable {s u : State} {r : Request} {rest : List Request} {st : Status} {data : List Byte}

theorem exec_subscribe (admits : s.admits r rest .subscribe)
    (outcome : subscribeBody (s.taken r rest) r = (u, { status := st, data := data })) :
    exec .subscribe s = .next (u.answered r st data) :=
  row_answers_of_body admits (row_of_kind (kind_of_admits admits)) (by decide) outcome

theorem exec_unsubscribe (admits : s.admits r rest .unsubscribe)
    (outcome : unsubscribeBody (s.taken r rest) r = (u, { status := st, data := data })) :
    exec .unsubscribe s = .next (u.answered r st data) :=
  row_answers_of_body admits (row_of_kind (kind_of_admits admits)) (by decide) outcome

theorem exec_eventAck (admits : s.admits r rest .eventAck)
    (outcome : eventAckBody (s.taken r rest) r = (u, { status := st, data := data })) :
    exec .eventAck s = .next (u.answered r st data) :=
  row_answers_of_body admits (row_of_kind (kind_of_admits admits)) (by decide) outcome
end

/-! ### SUBSCRIBE -/

/-- R174: the repeat intervals that are refused. -/
theorem repeatIntervalOk_iff (ms : Nat) : repeatIntervalOk ms = true ↔ ms = 0 ∨ (100 ≤ ms ∧ ms ≤ 60000) := by
  simp [repeatIntervalOk]

section
variable {s : State} {r : Request}

theorem subscribeBody_badIndex (above : 8 ≤ (r.op 0).toNat) : subscribeBody s r = (s, .refuse .badIndex) := by
  rw [subscribeBody, Request.opNat, index_none above]

variable {i : SlotId} (names : (r.op 0).toNat = i.val)
include names

/-- R174: the operands that are refused after the check of the slot number. -/
theorem subscribeBody_badValue (bad : 12 ≤ (r.op 3).toNat ∨ r.op16 1 = 0x0000 ∨ r.op16 1 = 0xFFFF ∨
    (r.op16 4).getLsbD 0 = true ∨ ¬ repeatIntervalOk (r.op16 6).toNat = true) :
    subscribeBody s r = (s, .refuse .badValue) := by
  unfold subscribeBody
  rw [Request.opNat, index_of_eq names]
  dsimp only
  split <;> [rfl; split <;> [rfl; split <;> [rfl; split <;> [rfl; skip]]]]
  rename_i p port address kinds interval
  rcases bad with above | zero | all | reserved | outside
  · rw [Request.opNat, index_none above] at port
    cases port
  · exact absurd (.inl zero) address
  · exact absurd (.inr all) address
  · exact absurd reserved kinds
  · exact absurd (by simpa using outside) interval

/-- R174: operands that pass every check. -/
theorem subscribeBody_ok {p : Port} (port : (r.op 3).toNat = p.val) (notZero : r.op16 1 ≠ 0x0000)
    (notAll : r.op16 1 ≠ 0xFFFF) (kinds : (r.op16 4).getLsbD 0 = false)
    (interval : repeatIntervalOk (r.op16 6).toNat = true) : subscribeBody s r =
      (s.modSlot i fun _ => .subscribed (r.op16 1) p (r.op16 4) (r.op16 6).toNat, .done []) := by
  have address : ¬ (r.op16 1 = Config.noNode ∨ r.op16 1 = Config.broadcast) := not_or.2 ⟨notZero, notAll⟩
  rw [subscribeBody, Request.opNat, index_of_eq names]
  simp only [Request.opNat, index_of_eq port, if_neg address, kinds, interval]
  rfl
end

/-! ### UNSUBSCRIBE -/

section
variable {s : State} {r : Request}

theorem unsubscribeBody_badIndex (above : 8 ≤ (r.op 0).toNat) : unsubscribeBody s r = (s, .refuse .badIndex) := by
  rw [unsubscribeBody, Request.opNat, index_none above]

variable {i : SlotId} (names : (r.op 0).toNat = i.val)
include names

theorem unsubscribeBody_free (free : (s.slot i).inUse = false) : unsubscribeBody s r = (s, .done []) := by
  rw [unsubscribeBody, Request.opNat, index_of_eq names]
  simp only [free, Bool.false_eq_true, if_false]

theorem unsubscribeBody_inUse (inUse : (s.slot i).inUse = true) :
    unsubscribeBody s r = (s.modSlot i fun _ => (s.slot i).unsubscribed, .done []) := by
  rw [unsubscribeBody, Request.opNat, index_of_eq names]
  simp only [inUse, if_true]
  rfl
end

/-- Settles O50: both bodies by their checks; UNSUBSCRIBE leaves the slot as `Slot.unsubscribed` says. -/
theorem subscribeAndUnsubscribe : Obligations.SubscribeAndUnsubscribe := by
  rintro s u r rest rfl
  refine ⟨fun admits => ⟨fun above => ?_, fun inRange bad => ?_,
    fun i p names port notZero notAll kinds interval => ?_⟩, fun admits => ⟨fun above => ?_, fun i names =>
      ⟨fun free => ?_, fun inUse => ⟨(s.slot i).unsubscribed, ?_, rfl, rfl, rfl, rfl, rfl⟩⟩⟩⟩
  · exact exec_subscribe admits (subscribeBody_badIndex above)
  · refine exec_subscribe admits (subscribeBody_badValue (i := ⟨_, inRange⟩) rfl ?_)
    refine bad.imp_right (Or.imp_right (Or.imp_right (Or.imp_right fun outside => ?_)))
    rw [repeatIntervalOk_iff]
    omega
  · exact exec_subscribe admits
      (subscribeBody_ok names port notZero notAll kinds ((repeatIntervalOk_iff _).2 interval))
  · exact exec_unsubscribe admits (unsubscribeBody_badIndex above)
  · exact exec_unsubscribe admits (unsubscribeBody_free names ((congrArg Slot.inUse (taken_slot s r rest i)).trans free))
  · rw [← taken_slot s r rest i] at inUse ⊢
    exact exec_unsubscribe admits (unsubscribeBody_inUse names inUse)

/-! ### EVENT_ACK -/

section
variable {s : State} {r : Request}

theorem eventAckBody_badIndex (above : 8 ≤ (r.op 0).toNat) : eventAckBody s r = (s, .refuse .badIndex) := by
  rw [eventAckBody, Request.opNat, index_none above]

variable {i : SlotId} (names : (r.op 0).toNat = i.val)
include names

theorem eventAckBody_notOwner (other : (s.slot i).inUse = false ∨ r.src ≠ (s.slot i).addr) :
    eventAckBody s r = (s, .refuse .notOwner) := by
  rw [eventAckBody, Request.opNat, index_of_eq names]
  exact if_pos (by simpa using other)

/-- R179: an acknowledgement from the slot's own address; a slot left owing gets an opportunity. -/
theorem eventAckBody_own (inUse : (s.slot i).inUse = true) (own : r.src = (s.slot i).addr) : eventAckBody s r =
    (if ((s.slot i).acked (r.op16 1)).owed = 0 then s.modSlot i fun _ => (s.slot i).acked (r.op16 1)
      else (s.modSlot i fun _ => (s.slot i).acked (r.op16 1)).opportunity (s.slot i).port, .done []) := by
  have acked : ((s.modSlot i fun x => x.acked (r.op16 1)).slot i) = (s.slot i).acked (r.op16 1) := by
    rw [modSlot_slot, if_pos rfl]
  rw [eventAckBody, Request.opNat, index_of_eq names]
  dsimp only
  rw [if_neg (by simp [inUse, own]), acked]
  rfl
end

/-- Settles O51: the body by its checks, and the slot that an acknowledgement leaves. -/
theorem eventAckMovesKinds : Obligations.EventAckMovesKinds := by
  rintro s u r rest rfl admits
  refine ⟨fun above => exec_eventAck admits (eventAckBody_badIndex above), fun i names => ?_⟩
  rw [← taken_slot s r rest i]
  refine ⟨fun other => exec_eventAck admits (eventAckBody_notOwner names other), fun inUse own =>
    ⟨_, acked_eq _ (r.op16 1), fun nothing => ?_, fun owes => ?_⟩⟩
  · have outcome := eventAckBody_own names inUse own
    rw [if_pos nothing] at outcome
    exact exec_eventAck admits outcome
  · have outcome := eventAckBody_own names inUse own
    rw [if_neg owes] at outcome
    exact exec_eventAck admits outcome

end Sys2Proof.Machine
end

section
/-! The step function and the queue of commands. -/

namespace Sys2Proof.Machine

/-- Settles O1: the queue is either a front command with its rest or empty, and the laws of `step` say what each gives. -/
theorem stepRunsTheFrontCommand : Obligations.StepRunsTheFrontCommand := by
  constructor
  · intro c rest s waiting
    exact step_cons waiting
  · intro s empty
    exact step_nil empty

end Sys2Proof.Machine
end
